-- ==== Sys2Proof/Word.lean ====
section
/-! DEFINITION. The word types of the part: characters, two-byte words and local times. -/

namespace Sys2Proof

/-- One character of a frame, or one byte of an image (R140). -/
abbrev Byte := BitVec 8

/-- A two-byte word: the conditions word (R143) and the CRC register (R141). -/
abbrev Half := BitVec 16

/-- A reading of the local time base: 32 bits of milliseconds, wrapping (R185). -/
abbrev Time := BitVec 32

end Sys2Proof
end

