-- ==== Sys2Proof/Config.lean ====
section
/-! DEFINITION. What is fixed for a running station: its ranks and the configuration image it uses
(11_start_up_and_station_modes.md, R188). The image is kept from the end of CONFIG to the next
power-up, so every block reads its parameters from it. The spec leaves no result undefined, and what it
leaves unstated is a marked choice of the log, so there is no free value here. -/

namespace Sys2Proof

/-- The three ranks of a bay (00_scope.md, rank table; codes of R143). -/
inductive Rank where
  | a | b | c
  deriving DecidableEq, Repr

/-- One thing of a kind for each rank. -/
structure PerRank (α : Type) where
  a : α
  b : α
  c : α
  deriving DecidableEq, Repr

/-- The claims a rank's arbiter keeps out of service (R88). -/
structure Mask where
  switch : Bool
  vacancy : Bool
  front : Bool
  deriving DecidableEq, Repr

/-- The levelling parameters of one rank (R46, R47; R188, bytes 5 to 25). -/
structure RankParams where
  factor : Nat
  full : Nat
  minimum : Nat
  cutOff : Bool
  deriving DecidableEq, Repr

/-- The configuration image, field by field in the order of R188's table. Times keep the image's own
units: `leadMs` in ms, `period` and `frontHold` in s, `vacancyMin` in min, `overrideHours` in h. -/
structure Image where
  target : Nat
  rank : PerRank RankParams
  present : PerRank Bool
  stepLimit : Nat
  deadBand : Nat
  upRate : Nat
  downRate : Nat
  fadeRate : Nat
  fallback : Nat
  vacant : Nat
  courtesy : Nat
  period : Nat
  window : Nat
  reach : Nat
  theta : Nat
  leadMs : Nat
  frontHold : Nat
  occUsed : Bool
  edgeFalling : Bool
  edges : Nat
  vacancyMin : Nat
  activeHigh : Bool
  overrideHours : Nat
  mask : PerRank Mask
  deriving DecidableEq, Repr

end Sys2Proof
end

