-- ==== Sys2Proof/Syntax.lean ====
section
/-! DEFINITION. The commands the part takes: one constructor of `Instr` for each row of
spec/opcode_table.json. The table gives no operand bits; the operands are what the rules say reaches
the part with the event. -/

namespace Sys2Proof

/-- What the converter delivers at a sample arrival (R3). -/
inductive ConvResult where
  | code (c : BitVec 12)
  | fullScale
  | underflow
  deriving DecidableEq, Repr

/-- The three outcomes of an address attempt (R187, last sentences). -/
inductive AttemptOutcome where
  | acknowledged
  | notAcknowledged
  | sclHeld
  deriving DecidableEq, Repr

/-- A transition of the OCC input (R107). -/
inductive Edge where
  | rising
  | falling
  deriving DecidableEq, Repr

/-- Why a frame under assembly is discarded (R132). -/
inductive DiscardCause where
  | characterError
  | unknownKind
  | kindClassMismatch
  | lengthAbove48
  | crcMismatch
  | startEdgeAfterIdle
  deriving DecidableEq, Repr

/-- A front identity: origin position and origin serial (R65). -/
structure FrontId where
  origin : BitVec 6
  serial : BitVec 4
  deriving DecidableEq, Repr

/-- The body of a service request, less its kind code: target, tag and parameters (R148). -/
structure Request where
  target : Byte
  tag : Byte
  params : List Byte
  deriving DecidableEq, Repr

/-- The commands. An operand `straps` is the level of POS5 to POS0 at that moment, POS5 the most
significant bit (R186); it is read only when a start or a RESTART begins in the command. -/
inductive Instr where
  | powerUp (resetNHigh : Bool) (straps : BitVec 6) (rowDominant wswHigh : Bool) (first : AttemptOutcome)
  | resetNAssert
  | resetNRelease (straps : BitVec 6) (first : AttemptOutcome)
  | addressAttempt (outcome : AttemptOutcome)
  | sclStallTimeout
  | configPollTimeout
  | imageReadComplete (bytes : List Byte)
  | listenTimerExpiry
  | conversionStart
  | sampleArrival (result : ConvResult)
  | presencePoll (spresHigh : Bool)
  | rearmTimerExpiry
  | fastTrackExpiry
  | preRaiseStart (id : FrontId)
  | frontMissed (id : FrontId)
  | frontRecordRemoval (id : FrontId)
  | levellingTick
  | rampStep (flt : PerRank Bool) (beforeMatch : PerRank Bool)
  | occActiveEdge (edge : Edge)
  | edgeAgeOut
  | vacancyTimerExpiry
  | wswLevelChange (high : Bool)
  | debounceExpiry
  | pressTimerExpiry
  | levelStepExpiry
  | overrideTimerExpiry
  | freshnessStale (pos : BitVec 6)
  | freshnessLost (pos : BitVec 6)
  | idlePoint
  | dominantTimeout (straps : BitVec 6)
  | lineRelease
  | rxGapTimeout
  | rxFrameDiscard (cause : DiscardCause)
  | fullReport (pos : BitVec 6) (seq : BitVec 4) (body : List Byte) (straps : BitVec 6)
  | deltaReport (pos : BitVec 6) (seq : BitVec 4) (body : List Byte) (straps : BitVec 6)
  | frontNotice (pos : BitVec 6) (body : List Byte) (straps : BitVec 6)
  | serviceResultHeard (pos : BitVec 6) (straps : BitVec 6)
  | queryState (req : Request)
  | hold (req : Request)
  | release (req : Request)
  | step (req : Request)
  | runToMatch (req : Request)
  | forceLevel (req : Request)
  | forceCancel (req : Request)
  | snapshotLoad (req : Request)
  | snapshotShift (req : Request)
  | readEntry (req : Request)
  | readFronts (req : Request)
  | clearConditions (req : Request)
  | restart (req : Request) (straps : BitVec 6)
  | unknownServiceRequest (kind : Byte) (req : Request)
  | forceTimerExpiry
  | reportTimerExpiry
  | attemptStart
  | arbitrationLoss
  | arbitrationWon
  | garble (straps : BitVec 6)
  | frameComplete (straps : BitVec 6)
  | deferTimeout
  | transitionToDominant
  | returnToRecessive
  | characterEnd (samples : BitVec 11) (straps : BitVec 6)
  deriving DecidableEq, Repr

end Sys2Proof
end

