-- ==== Sys2Proof/Decode.lean ====
section
/-! DEFINITION. The command a table word spells. No row of spec/opcode_table.json gives match bits
(98_reader.md: n_rows_with_fixed 0), so no word spells a command (log 30). -/

namespace Sys2Proof

/-- The command that the word `w` of `nbits` bits spells by the table's bits: none, for every word. -/
def decodeTableWord (_nbits _w : Nat) : Option Instr := none

end Sys2Proof
end

