-- ==== Sys2Proof/Machine/Types.lean ====
section
/-! DEFINITION. The state of each block, in the manual's own names (00_scope.md, block diagram, and the
state table at the head of each chapter). A timer is `none` when stopped and otherwise the instant, in
clock units of 1/192,000 s since the release, at which it was last started (log 4). -/

namespace Sys2Proof.Machine

/-- A timer: stopped, or running since an instant of the clock. -/
abbrev Timer := Option Nat

/-! ## Start-up controller -/

/-- The station modes (R143 gives their codes). -/
inductive Mode where
  | config | listen | active | island | mute
  deriving DecidableEq, Repr

/-- The configuration cause (R188). -/
inductive Cause where
  | image | noMemory | badImage
  deriving DecidableEq, Repr

/-- Where the configuration read stands (R187). -/
inductive ReadPhase where
  /-- no read under way -/
  | idle
  /-- the last attempt failed; the next is made 1 ms after it began -/
  | waiting
  /-- SCL is held low in an attempt -/
  | stalled
  /-- an attempt was acknowledged and the 64 bytes are being read -/
  | reading
  deriving DecidableEq, Repr

/-- The start-up controller (11, state table). -/
structure StartUp where
  mode : Mode
  position : Nat
  image : Option Image
  cause : Option Cause
  read : ReadPhase
  poll : Timer
  lastAttempt : Nat
  listen : Timer
  deriving DecidableEq, Repr

/-- The input pins the blocks read by level. ROW stands with the line monitor. -/
structure Pins where
  straps : BitVec 6
  wswHigh : Bool
  spresHigh : Bool
  flt : PerRank Bool
  deriving DecidableEq, Repr

/-! ## Daylight sampler -/

/-- The converter's ranges. -/
inductive Range where
  | low | high
  deriving DecidableEq, Repr

/-- The five qualities of a sample (R4). -/
inductive Quality where
  | good | saturated | settling | absent | fault
  deriving DecidableEq, Repr

/-- One sample; `code` is what the snapshot shows of it (R153). -/
structure Sample where
  value : Nat
  code : Nat
  range : Range
  quality : Quality
  deriving DecidableEq, Repr

/-- The window record (R13); `worst` is `none` for NONE. -/
structure WindowRecord where
  size : Nat
  usable : Nat
  mean : Option Nat
  valid : Bool
  worst : Option Quality
  deriving DecidableEq, Repr

/-- The daylight sampler (01, state table). -/
structure Sampler where
  conversion : Timer
  converting : Option Range
  pollDue : Bool
  range : Range
  saturatedRun : Nat
  lowRun : Nat
  settle : Nat
  present : Bool
  faultRun : Nat
  ring : List Sample
  taken : Nat
  fastMean : Option Nat
  window : WindowRecord
  deriving DecidableEq, Repr

/-! ## Row table -/

/-- Where a reading comes from (R43). -/
inductive ReadingState where
  | own | borrowed | unavailable
  deriving DecidableEq, Repr

/-- Occupancy (R109). -/
inductive Occupancy where
  | unknown | occupied | vacant
  deriving DecidableEq, Repr

/-- A published record (R22); a goal is `none` for the published value `none`. -/
structure Published where
  mode : Mode
  reading : Nat
  readingState : ReadingState
  goal : PerRank (Option Nat)
  occupancy : Occupancy
  override : Bool
  held : Bool
  conditions : Half
  want : List Nat
  deriving DecidableEq, Repr

/-- How recently a peer was heard (R21). -/
inductive Status where
  | absent | fresh | stale | lost
  deriving DecidableEq, Repr

/-- One entry of the row table (R21). -/
structure Entry where
  status : Status
  baseValid : Bool
  lastSeq : Nat
  freshness : Timer
  record : Published
  deriving DecidableEq, Repr

/-- The row table: 63 entries keyed by position, and the own want-full list, oldest first. -/
structure RowTable where
  entries : List Entry
  want : List Nat
  deriving DecidableEq, Repr

/-! ## Levelling engine -/

/-- The levelling engine (03, state table). The base claim of a rank is the LEVELLING or FALLBACK claim
asserted on its arbiter and is kept there (log 28). -/
structure Levelling where
  tick : Timer
  reading : Nat
  readingState : ReadingState
  goal : PerRank (Option Nat)
  liftFloor : PerRank Nat
  published : PerRank (Option Nat)
  deriving DecidableEq, Repr

/-! ## Front tracker -/

/-- The way a front travels (R65). -/
inductive Direction where
  | unknown | towardHigher | towardLower
  deriving DecidableEq, Repr

/-- The standing of a front record (R65). -/
inductive FrontState where
  | watching | approaching | preRaise | passed | missed
  deriving DecidableEq, Repr

/-- A sighting of a front at a position and a local time. -/
structure Sighting where
  pos : Nat
  time : Time
  deriving DecidableEq, Repr

/-- A front record (R65); the sighting list is newest first. -/
structure FrontRecord where
  origin : Nat
  serial : Nat
  direction : Direction
  magnitude : Nat
  sightings : List Sighting
  pace : Option Nat
  arrival : Option Time
  state : FrontState
  lastUpdate : Time
  ownTime : Option Time
  preRaise : PerRank Nat
  missedTime : Option Time
  deriving DecidableEq, Repr

/-- The front tracker (04, state table). The table stands in order of identity. -/
structure Fronts where
  armed : Bool
  rearm : Timer
  serial : Nat
  fastActive : Bool
  fastTimer : Timer
  fastValue : PerRank Nat
  table : List FrontRecord
  deriving DecidableEq, Repr

/-! ## Claim arbiters and ramp generators -/

/-- A ramp rule: rates in per mille per second (R87). -/
structure Rule where
  up : Nat
  down : Nat
  deriving DecidableEq, Repr

/-- An asserted claim: its value and its ramp rule (R86, R87). -/
structure Claim where
  value : Nat
  rule : Rule
  deriving DecidableEq, Repr

/-- The six claim kinds, highest priority first (R86). -/
inductive ClaimKind where
  | serviceForce | switch | vacancy | front | levelling | fallback
  deriving DecidableEq, Repr

/-- A rank's claim set: each claim withdrawn (`none`) or asserted. -/
structure Claims where
  force : Option Claim
  switch : Option Claim
  vacancy : Option Claim
  front : Option Claim
  levelling : Option Claim
  fallback : Option Claim
  deriving DecidableEq, Repr

/-- The ramp states (R93). -/
inductive RampState where
  | still | rising | falling | frozen
  deriving DecidableEq, Repr

/-- A direction of movement: of an output before a freeze (R96), of the long press (R117). -/
inductive Travel where
  | up | down
  deriving DecidableEq, Repr

/-- A ramp generator (05, state table). `target` and `rule` are also the arbiter's handed target and
handed rule (log 28); `before` is the direction before the freeze, `none` for STILL (R96). -/
structure Ramp where
  output : Nat
  target : Nat
  rule : Option Rule
  acc : Nat
  state : RampState
  before : Option Travel
  assertedRun : Nat
  clearRun : Nat
  faulted : Bool
  deriving DecidableEq, Repr

/-- One rank's arbiter and ramp generator. -/
structure RankUnit where
  claims : Claims
  inService : Option ClaimKind
  ramp : Ramp
  deriving DecidableEq, Repr

/-! ## Occupancy and switch units -/

/-- The occupancy unit (06, first state table); edges oldest first. -/
structure OccUnit where
  state : Occupancy
  edges : List Time
  vacancy : Timer
  deriving DecidableEq, Repr

/-- How the present press stands (R115). -/
inductive Press where
  | none | timing | long | spent
  deriving DecidableEq, Repr

/-- The switch unit (06, second state table). `pressed` is the debounced level, PRESSED or RELEASED, read
from the end of CONFIG on (R114, R122; log 36); `level` is `none` while the override is INACTIVE. -/
structure SwitchUnit where
  pressed : Bool
  debounce : Timer
  press : Press
  pressTimer : Timer
  level : Option Nat
  travel : Option Travel
  levelStep : Timer
  override : Timer
  deriving DecidableEq, Repr

/-! ## Line monitor and receiver -/

/-- The line states (R126, R127). -/
inductive LineState where
  | idle | busy | stuck
  deriving DecidableEq, Repr

/-- The line monitor (07, first state table). `pulled`: some other peer pulls ROW low; the level of ROW
is that AND what the station drives (R124; log 25). -/
structure Line where
  pulled : Bool
  state : LineState
  recessiveTime : Timer
  dominantTime : Timer
  releaseTime : Timer
  deriving DecidableEq, Repr

/-- The receiver states (R129). -/
inductive RxState where
  | search | header | body | check
  deriving DecidableEq, Repr

/-- The character under assembly (07, second state table): when its start edge came, whether the
after-idle mark was set then, and the bits sampled so far, first bit first, `true` for recessive. -/
structure RxChar where
  start : Nat
  afterIdle : Bool
  samples : List Bool
  deriving DecidableEq, Repr

/-- The frame under assembly (R129): the header characters taken so far, the body, the running CRC,
the first check character, `driving` and `touched`. -/
structure RxFrame where
  access : Option Byte
  kindSeq : Option Byte
  length : Option Nat
  body : List Byte
  crc : Half
  check : Option Byte
  driving : Bool
  touched : Bool
  deriving DecidableEq, Repr

/-- The receiver (07, second state table). `ownStart`: the frame last begun on the line was begun by this
station. -/
structure Receiver where
  state : RxState
  char : Option RxChar
  afterIdle : Bool
  frame : Option RxFrame
  ownStart : Bool
  deriving DecidableEq, Repr

/-! ## Transmit scheduler -/

/-- The contention states (09). -/
inductive Contention where
  | txIdle | waitIdle | defer | arbitrating | sending
  deriving DecidableEq, Repr

/-- What a queue entry is for (R155). -/
inductive EntryKind where
  | full
  | delta
  | notice (origin serial : Nat)
  | result (body : List Byte)
  deriving DecidableEq, Repr

/-- A queue entry: kind, entry time, attempt count, and whether its frame is in flight. -/
structure QueueEntry where
  kind : EntryKind
  entryTime : Time
  attempts : Nat
  inFlight : Bool
  deriving DecidableEq, Repr

/-- The frame in flight: when it began, all its characters, how many of its bits have been put on ROW
and how many read back right, whether the bit after those read back otherwise than it was driven, and
for a report its sequence, the record it carries and whether it was composed as a FULL REPORT
(R124, R161 to R165). -/
structure Flight where
  start : Nat
  chars : List Byte
  driven : Nat
  read : Nat
  wrong : Bool
  seq : Nat
  report : Option Published
  asFull : Bool
  deriving DecidableEq, Repr

/-- The transmit scheduler (09, state table); the queue stands in queue order. -/
structure Tx where
  queue : List QueueEntry
  contention : Contention
  flight : Option Flight
  heldFull : Bool
  seq : Nat
  basis : Option Published
  lastDone : Option Time
  report : Timer
  parting : Bool
  deriving DecidableEq, Repr

/-! ## Service engine -/

/-- The service phases (R170). -/
inductive Phase where
  | idle | executing | resultPending
  deriving DecidableEq, Repr

/-- The hold states (R173). -/
inductive Hold where
  | running | held | stepping | runToMatch
  deriving DecidableEq, Repr

/-- Why the hold state is HELD; `none` is an Option at its place. -/
inductive HoldCause where
  | request | stepDone | matched
  deriving DecidableEq, Repr

/-- The pending unicast request: its kind code and tag (R170), and whether it is an executed RESTART,
whose restart begins when the phase returns to IDLE (R182, log 35). -/
structure Pending where
  kind : Byte
  tag : Byte
  restarts : Bool
  deriving DecidableEq, Repr

/-- The step record (R174). -/
structure StepRecord where
  tickDone : Bool
  count : Nat
  unicast : Bool
  deriving DecidableEq, Repr

/-- The sense of a RUN TO MATCH (R176). -/
inductive Sense where
  | atOrAbove | atOrBelow
  deriving DecidableEq, Repr

/-- The match record (R176). -/
structure MatchRecord where
  rank : Rank
  value : Nat
  sense : Sense
  deriving DecidableEq, Repr

/-- The service engine (10, state table). `owed`: a step's result is owed at the next completed tick
(R175, fourth case). -/
structure Service where
  phase : Phase
  pending : Option Pending
  overrun : Bool
  hold : Hold
  cause : Option HoldCause
  step : StepRecord
  owed : Bool
  matching : Option MatchRecord
  force : Timer
  snapshot : Option (List Byte)
  shiftIndex : Nat
  deriving DecidableEq, Repr

end Sys2Proof.Machine
end

