-- ==== Sys2Proof/Machine/Reset.lean ====
section
/-! DEFINITION. The value each block takes at power-up and at RESET_N, before the release starts its
free-running timers (the reset table of each chapter). -/

/-- The same thing for every rank. -/
def Sys2Proof.PerRank.const {α : Type} (x : α) : Sys2Proof.PerRank α := ⟨x, x, x⟩

namespace Sys2Proof.Machine


/-- The window record before the first levelling tick (R16). -/
def emptyWindow : WindowRecord :=
  { size := 0, usable := 0, mean := none, valid := false, worst := none }

/-- The sampler (R17). -/
def samplerPowerUp : Sampler :=
  { conversion := none, converting := none, pollDue := false, range := .low, saturatedRun := 0,
    lowRun := 0, settle := 0, present := true, faultRun := 0, ring := [], taken := 0,
    fastMean := none, window := emptyWindow }

/-- The empty record (R22). -/
def emptyRecord : Published :=
  { mode := .active, reading := 0, readingState := .unavailable, goal := PerRank.const none,
    occupancy := .unknown, override := false, held := false, conditions := 0, want := [] }

/-- An entry after reset (R21). -/
def emptyEntry : Entry :=
  { status := .absent, baseValid := false, lastSeq := 0, freshness := none, record := emptyRecord }

/-- The row table after power-up, RESET_N and RESTART (R38). -/
def rowTablePowerUp : RowTable := { entries := List.replicate 63 emptyEntry, want := [] }

/-- The levelling engine (R61). -/
def levellingPowerUp : Levelling :=
  { tick := none, reading := 0, readingState := .unavailable, goal := PerRank.const none,
    liftFloor := PerRank.const 0, published := PerRank.const none }

/-- The front tracker (R85). -/
def frontsPowerUp : Fronts :=
  { armed := true, rearm := none, serial := 0, fastActive := false, fastTimer := none,
    fastValue := PerRank.const 0, table := [] }

/-- The empty claim set (R103). -/
def noClaims : Claims :=
  { force := none, switch := none, vacancy := none, front := none, levelling := none,
    fallback := none }

/-- A ramp generator (R103). -/
def rampPowerUp : Ramp :=
  { output := 0, target := 0, rule := none, acc := 0, state := .still, before := none,
    assertedRun := 0, clearRun := 0, faulted := false }

/-- A rank's arbiter and ramp generator (R103). -/
def rankPowerUp : RankUnit := { claims := noClaims, inService := none, ramp := rampPowerUp }

/-- The occupancy unit (R113). -/
def occPowerUp : OccUnit := { state := .unknown, edges := [], vacancy := none }

/-- The switch unit (R122). The debounced level is undefined until the end of CONFIG; the model holds
RELEASED till then (DESIGN CHOICE, log 36). -/
def switchPowerUp : SwitchUnit :=
  { pressed := false, debounce := none, press := .none, pressTimer := none, level := none,
    travel := none, levelStep := none, override := none }

/-- The line monitor, with ROW at the level the other peers leave on it (R138). -/
def linePowerUp (pulled : Bool) : Line :=
  { pulled := pulled, state := .busy, recessiveTime := none, dominantTime := none,
    releaseTime := none }

/-- The receiver (R138). -/
def receiverPowerUp : Receiver :=
  { state := .search, char := none, afterIdle := false, frame := none, ownStart := false }

/-- The transmit scheduler after power-up, RESET_N and RESTART (R168). -/
def txPowerUp : Tx :=
  { queue := [], contention := .txIdle, flight := none, heldFull := false, seq := 0, basis := none,
    lastDone := none, report := none, parting := false }

/-- The service engine (R183). -/
def servicePowerUp : Service :=
  { phase := .idle, pending := none, overrun := false, hold := .running, cause := none,
    step := { tickDone := false, count := 0, unicast := false }, owed := false, matching := none,
    force := none, snapshot := none, shiftIndex := 0 }

/-- The start-up controller while RESET_N is low (R184), with the strap value still to be read: until
then the own position, to which the chapter gives no value, is 0 (DESIGN CHOICE, log 37). -/
def startUpPowerUp : StartUp :=
  { mode := .config, position := 0, image := none, cause := none, read := .idle, poll := none,
    lastAttempt := 0, listen := none }

/-- Where the configuration read stands after an attempt with this outcome (R187). -/
def readPhaseAfter : AttemptOutcome → ReadPhase
  | .acknowledged => .reading
  | .notAcknowledged => .waiting
  | .sclHeld => .stalled

end Sys2Proof.Machine
end

