-- ==== Sys2Proof/Machine/State.lean ====
section
/-! DEFINITION. The whole state of the station, the reasons a step could stop, and the state right
after reset. -/

namespace Sys2Proof.Machine

/-- The station: the queue of waiting commands, the clock, the pins and every block's state. -/
structure State where
  /-- the commands that are waiting, first in first out (log 1) -/
  pending : List Instr
  /-- clock units of 1/192,000 s since the release of power-up or RESET_N (R185, log 4) -/
  clock : Nat
  /-- supply present and RESET_N high (R184) -/
  running : Bool
  pins : Pins
  /-- the duty each dimming pin shows in the present 500 us period (R98) -/
  dim : PerRank Nat
  startUp : StartUp
  /-- the latched conditions, one bit each as R143 numbers them (R181) -/
  conditions : Half
  sampler : Sampler
  rows : RowTable
  levelling : Levelling
  fronts : Fronts
  ranks : PerRank RankUnit
  /-- the ramp clock, one for the three ranks (R93) -/
  rampClock : Timer
  occ : OccUnit
  switch : SwitchUnit
  line : Line
  rx : Receiver
  tx : Tx
  service : Service
  deriving DecidableEq, Repr

/-- The part has no fault that stops it: every event of the spec has an effect or none, and what goes
wrong is latched as a condition. No meaning raises a fault (log 29). -/
inductive Fault where
  /-- Raised by nothing; safe, since a stop could hide behaviour but never invent any. -/
  | unreachable
  deriving DecidableEq, Repr

/-- Why a command would have no meaning in the model. -/
inductive Refusal where
  /-- Raised by an arm of exec whose command has no meaning yet; safe: nothing can be proved of it. -/
  | notModelled (mnemonic : String)
  deriving DecidableEq, Repr

/-- Every block at its power-up value, RESET_N low, no timer running (R184). The queue and the levels
the pins show are outside the reset. -/
def State.inReset (pending : List Instr) (pins : Pins) (rowDominant : Bool) : State :=
  { pending := pending, clock := 0, running := false, pins := pins, dim := PerRank.const 0,
    startUp := startUpPowerUp, conditions := 0, sampler := samplerPowerUp, rows := rowTablePowerUp,
    levelling := levellingPowerUp, fronts := frontsPowerUp, ranks := PerRank.const rankPowerUp,
    rampClock := none, occ := occPowerUp, switch := switchPowerUp, line := linePowerUp rowDominant,
    rx := receiverPowerUp, tx := txPowerUp, service := servicePowerUp }

/-- The pins as reset finds them: straps 0, WSW high, SPRES high, no driver fault (DESIGN CHOICE,
log 5). -/
def Pins.atReset : Pins :=
  { straps := 0, wswHigh := true, spresHigh := true, flt := PerRank.const false }

/-- The machine right after reset: the release has just been taken with the pins of `Pins.atReset`,
ROW recessive, and the first address attempt not acknowledged (log 5). Mode CONFIG; the conversion
timer, ramp clock, vacancy timer, recessive time and poll timer start at 0 (R184). -/
def State.reset : State :=
  { State.inReset [] Pins.atReset false with
    running := true
    startUp := { startUpPowerUp with read := .waiting, poll := some 0 }
    sampler := { samplerPowerUp with conversion := some 0, converting := some .low, pollDue := true }
    rampClock := some 0
    occ := { occPowerUp with vacancy := some 0 }
    line := { linePowerUp false with recessiveTime := some 0 } }

end Sys2Proof.Machine
end

