-- ==== Sys2Proof/Machine/Ops.lean ====
section
/-! DEFINITION. Named operations over the state: one update per block, the per-rank helpers, the clock
and its timers, and the readings every block shares. -/

namespace Sys2Proof

/-- The thing of rank `r`. -/
def PerRank.get {α : Type} (p : PerRank α) : Rank → α
  | .a => p.a
  | .b => p.b
  | .c => p.c

/-- The thing of rank `r` replaced. -/
def PerRank.set {α : Type} (p : PerRank α) (r : Rank) (x : α) : PerRank α :=
  match r with
  | .a => { p with a := x }
  | .b => { p with b := x }
  | .c => { p with c := x }

/-- One thing per rank, worked out rank by rank. -/
def PerRank.of {α : Type} (f : Rank → α) : PerRank α := ⟨f .a, f .b, f .c⟩

/-- The three things in rank order. -/
def PerRank.toList {α : Type} (p : PerRank α) : List α := [p.a, p.b, p.c]

namespace Machine

/-! ## Updates, one a block -/

/-- The start-up controller's state replaced. -/
def State.setStartUp (s : State) (x : StartUp) : State := { s with startUp := x }

/-- The condition set replaced. -/
def State.setConditions (s : State) (x : Half) : State := { s with conditions := x }

/-- The sampler's state replaced. -/
def State.setSampler (s : State) (x : Sampler) : State := { s with sampler := x }

/-- The row table replaced. -/
def State.setRows (s : State) (x : RowTable) : State := { s with rows := x }

/-- The levelling engine's state replaced. -/
def State.setLevelling (s : State) (x : Levelling) : State := { s with levelling := x }

/-- The front tracker's state replaced. -/
def State.setFronts (s : State) (x : Fronts) : State := { s with fronts := x }

/-- The arbiters and ramp generators replaced. -/
def State.setRanks (s : State) (x : PerRank RankUnit) : State := { s with ranks := x }

/-- The ramp clock replaced. -/
def State.setRampClock (s : State) (x : Timer) : State := { s with rampClock := x }

/-- The occupancy unit's state replaced. -/
def State.setOcc (s : State) (x : OccUnit) : State := { s with occ := x }

/-- The switch unit's state replaced. -/
def State.setSwitch (s : State) (x : SwitchUnit) : State := { s with switch := x }

/-- The line monitor's state replaced. -/
def State.setLine (s : State) (x : Line) : State := { s with line := x }

/-- The receiver's state replaced. -/
def State.setRx (s : State) (x : Receiver) : State := { s with rx := x }

/-- The transmit scheduler's state replaced. -/
def State.setTx (s : State) (x : Tx) : State := { s with tx := x }

/-- The service engine's state replaced. -/
def State.setService (s : State) (x : Service) : State := { s with service := x }

/-- The pin levels replaced. -/
def State.setPins (s : State) (x : Pins) : State := { s with pins := x }

/-! ## Readings shared by the blocks -/

/-- The default image (R188, last column). -/
def defaultImage : Image :=
  { target := 500
    rank := ⟨⟨800, 600, 100, true⟩, ⟨400, 600, 100, false⟩, ⟨150, 600, 100, false⟩⟩
    present := PerRank.const true, stepLimit := 150, deadBand := 10, upRate := 200, downRate := 50
    fadeRate := 20, fallback := 700, vacant := 100, courtesy := 300, period := 2, window := 32
    reach := 1, theta := 35, leadMs := 1500, frontHold := 10, occUsed := false
    edgeFalling := false, edges := 3, vacancyMin := 15, activeHigh := false, overrideHours := 2
    mask := PerRank.const ⟨false, false, false⟩ }

/-- The parameters the blocks use: those of the image in use. In CONFIG there is none and no rule reads
a parameter; the default image stands in so that the reading is total. -/
def State.img (s : State) : Image := s.startUp.image.getD defaultImage

/-- The station mode. -/
def State.mode (s : State) : Mode := s.startUp.mode

/-- The own position (R186). -/
def State.own (s : State) : Nat := s.startUp.position

/-- Whether rank `r` is present in the image in use; no image, no present rank (R86: no claims in CONFIG). -/
def State.present (s : State) (r : Rank) : Bool :=
  match s.startUp.image with
  | none => false
  | some i => i.present.get r

/-- `override` is ACTIVE (R119). -/
def State.overriding (s : State) : Bool := s.switch.level.isSome

/-- The published `held` flag (R173). -/
def State.heldFlag (s : State) : Bool :=
  s.service.hold == .held || s.service.hold == .stepping

/-- The highest output among the present ranks; 0 when none is present (R116, R117). -/
def State.highestOutput (s : State) : Nat :=
  let out (r : Rank) : Nat := if s.present r then (s.ranks.get r).ramp.output else 0
  max (out .a) (max (out .b) (out .c))

/-! ## Time: clock units of 1/192,000 s (log 4) -/

/-- Clock units in `n` bit times (R124: 19,200 bit/s). -/
def bits (n : Nat) : Nat := n * 10

/-- Clock units in `n` milliseconds. -/
def ms (n : Nat) : Nat := n * 192

/-- Clock units in `n` seconds. -/
def sec (n : Nat) : Nat := n * 192000

/-- Clock units in `n` minutes. -/
def minutes (n : Nat) : Nat := sec (n * 60)

/-- Clock units in one 500 us period of the dimming duty (R98). -/
def dutyPeriod : Nat := 96

/-- "Now" on the local time base (R185). -/
def State.now (s : State) : Time := BitVec.ofNat 32 (s.clock / 192)

/-- The difference of two local times, modulo 2^32 and signed (R185). -/
def since (a b : Time) : Int := (a - b).toInt

/-- `n` milliseconds after a local time. -/
def later (t : Time) (n : Nat) : Time := t + BitVec.ofNat 32 n

/-- The clock moved on to `t` if it is not there yet. The dimming pins take the outputs at the start of
each duty period passed (R98). A period starts at each multiple of 500 us from the release, and a ramp step
that falls on such a start moves the output after the pin has taken it: both are the model's choice
(log 11). -/
def State.advanceTo (s : State) (t : Nat) : State :=
  if t ≤ s.clock then s
  else
    { s with
      clock := t
      dim := if s.clock / dutyPeriod = t / dutyPeriod then s.dim
             else ⟨s.ranks.a.ramp.output, s.ranks.b.ramp.output, s.ranks.c.ramp.output⟩ }

/-- The clock moved on to the local time `t` if now is before it. -/
def State.advanceToTime (s : State) (t : Time) : State :=
  let d := since t s.now
  if d ≤ 0 then s else s.advanceTo (ms (s.clock / 192 + d.toNat))

/-- What a timer has counted since its start, in clock units. -/
def State.elapsed (s : State) (start : Nat) : Nat := s.clock - start

/-- What is left of a running timer of length `limit`. -/
def State.remaining (s : State) (limit : Nat) (t : Timer) : Option Nat :=
  t.map fun start => limit - s.elapsed start

/-- An event that a timer's expiry brings: with the timer stopped there is no such event and nothing
changes; otherwise the clock moves on to the expiry and the event is taken (log 2, log 3). -/
def State.onExpiry (s : State) (t : Timer) (limit : Nat) (event : Nat → State → State) : State :=
  match t with
  | none => s
  | some start => event (start + limit) (s.advanceTo (start + limit))

/-- Nothing happens in a part held in reset (R184). -/
def State.live (s : State) (event : State → State) : State := if s.running then event s else s

/-- The strap levels of this moment, for a strap read inside the command (R186, log 7). -/
def State.showStraps (s : State) (straps : BitVec 6) : State :=
  s.setPins { s.pins with straps := straps }

end Machine

end Sys2Proof
end

