-- ==== Sys2Proof/Machine/Flags.lean ====
section
/-! DEFINITION. The condition set: sixteen latched conditions (10, condition set; R143's word). -/

namespace Sys2Proof.Machine

/-- The sixteen conditions. -/
inductive Condition where
  | sensorAbsent | sensorFault | readingBorrowed | readingUnavailable | lineStuck
  | duplicatePosition | badPosition | txGarble | rxFrameError | outputFaultA | outputFaultB
  | outputFaultC | configDefaulted | frontTableFull | forceExpired | deltaGap
  deriving DecidableEq, Repr

/-- The bit of a condition in the conditions word (R143). -/
def Condition.bit : Condition → Nat
  | .sensorAbsent => 0
  | .sensorFault => 1
  | .readingBorrowed => 2
  | .readingUnavailable => 3
  | .lineStuck => 4
  | .duplicatePosition => 5
  | .badPosition => 6
  | .txGarble => 7
  | .rxFrameError => 8
  | .outputFaultA => 9
  | .outputFaultB => 10
  | .outputFaultC => 11
  | .configDefaulted => 12
  | .frontTableFull => 13
  | .forceExpired => 14
  | .deltaGap => 15

/-- The word holding one condition alone. -/
def Condition.word (c : Condition) : Half := 1#16 <<< c.bit

/-- The OUTPUT_FAULT condition of a rank (R100). -/
def outputFault : Rank → Condition
  | .a => .outputFaultA
  | .b => .outputFaultB
  | .c => .outputFaultC

/-- A condition is latched. -/
def State.latched (s : State) (c : Condition) : Bool := s.conditions.getLsbD c.bit

/-- Latch a condition (R181). -/
def State.latch (s : State) (c : Condition) : State := s.setConditions (s.conditions ||| c.word)

/-- Latch a condition when its cause is there. -/
def State.latchIf (s : State) (b : Bool) (c : Condition) : State := if b then s.latch c else s

/-- Clear each condition named in the word and leave the others (R181). -/
def State.clearConditions (s : State) (named : Half) : State :=
  s.setConditions (s.conditions &&& ~~~named)

end Sys2Proof.Machine
end

