-- ==== Sys2Proof/Machine/Arbiters.lean ====
section
/-! DEFINITION. The claim arbiters and the ramp generators: the choice of the claim in service, the
hand-off, the freeze, one ramp step and one fault-sense sample (05_claims_ramps_and_outputs.md). -/

namespace Sys2Proof.Machine

/-! ## The arbiter of one rank -/

/-- The asserted, unmasked claim of highest priority, with its kind (R86, R89). -/
def Claims.chosen (m : Mask) (c : Claims) : Option (ClaimKind × Claim) :=
  (c.force.map (ClaimKind.serviceForce, ·)
    <|> (if m.switch then none else c.switch.map (ClaimKind.switch, ·))
    <|> (if m.vacancy then none else c.vacancy.map (ClaimKind.vacancy, ·))
    <|> (if m.front then none else c.front.map (ClaimKind.front, ·))
    <|> c.levelling.map (ClaimKind.levelling, ·)
    <|> c.fallback.map (ClaimKind.fallback, ·))

/-- The motion from an output toward a target (R93). -/
def motion (output target : Nat) : RampState :=
  if output = target then .still else if output < target then .rising else .falling

/-- A target and rule handed to the generator (R95). A FROZEN generator records them. -/
def Ramp.handOff (g : Ramp) (target : Nat) (rule : Rule) : Ramp :=
  if g.state = .frozen then { g with target := target, rule := some rule }
  else
    let new := motion g.output target
    { g with
      target := target
      rule := some rule
      state := new
      acc := if new = g.state ∧ new ≠ .still then g.acc else 0 }

/-- The re-choice of one rank: the chosen claim goes in service and is handed to the generator (R89). -/
def RankUnit.reChoose (m : Mask) (u : RankUnit) : RankUnit :=
  match u.claims.chosen m with
  | none => { u with inService := none }
  | some (k, c) => { u with inService := some k, ramp := u.ramp.handOff c.value c.rule }

/-- A change of the claim set. A change that leaves it alike is not seen (R86); one that is seen is
followed by a re-choice when the hold state allows it (R89, R91). -/
def RankUnit.change (choosing : Bool) (m : Mask) (f : Claims → Claims) (u : RankUnit) : RankUnit :=
  let c := f u.claims
  if c = u.claims then u
  else if choosing then RankUnit.reChoose m { u with claims := c }
  else { u with claims := c }

/-- The direction a ramp state moves in; `none` for no motion. -/
def RampState.travel : RampState → Option Travel
  | .rising => some .up
  | .falling => some .down
  | _ => none

/-- The ramp state that moves in a direction. -/
def RampState.along : Option Travel → RampState
  | some .up => .rising
  | some .down => .falling
  | none => .still

/-- The generator enters FROZEN, keeping output, target, rule and accumulator (R96). -/
def Ramp.freeze (g : Ramp) : Ramp :=
  if g.state = .frozen then g else { g with before := g.state.travel, state := .frozen }

/-- The generator leaves FROZEN with the motion it had before the freeze, for the re-choice that ends
the freeze to compare with (R96). -/
def Ramp.thaw (g : Ramp) : Ramp :=
  if g.state = .frozen then { g with state := RampState.along g.before } else g

/-- The whole step that a rate makes with an accumulator, and what remains (R94). -/
def wholeStep (acc rate : Nat) : Nat × Nat := ((acc + rate) / 50, (acc + rate) % 50)

/-- One ramp step of one generator (R94). -/
def Ramp.move (g : Ramp) : Ramp :=
  match g.state, g.rule with
  | .rising, some rule =>
    let w := wholeStep g.acc rule.up
    if g.target - g.output ≤ w.1 then { g with output := g.target, acc := 0, state := .still }
    else { g with output := g.output + w.1, acc := w.2 }
  | .falling, some rule =>
    let w := wholeStep g.acc rule.down
    if g.output - g.target ≤ w.1 then { g with output := g.target, acc := 0, state := .still }
    else { g with output := g.output - w.1, acc := w.2 }
  | _, _ => g

/-- A run raised by 1, saturating at 3 (R99). -/
def runUp (n : Nat) : Nat := min 3 (n + 1)

/-- One fault-sense sample, judged against the output before this step moves it (R99, R100). -/
def Ramp.sense (asserted : Bool) (g : Ramp) : Ramp :=
  if asserted then
    if 0 < g.output then
      { g with
        assertedRun := runUp g.assertedRun, clearRun := 0
        faulted := if runUp g.assertedRun = 3 then true else g.faulted }
    else g
  else
    { g with
      clearRun := runUp g.clearRun, assertedRun := 0
      faulted := if runUp g.clearRun = 3 then false else g.faulted }

/-- The sample latches OUTPUT_FAULT: lit, asserted, and the asserted run left at 3 (R100). -/
def Ramp.senseLatches (asserted : Bool) (g : Ramp) : Bool :=
  asserted && decide (0 < g.output) && runUp g.assertedRun == 3

/-- The output meets the sense of a RUN TO MATCH (R97). -/
def MatchRecord.meets (m : MatchRecord) (output : Nat) : Bool :=
  match m.sense with
  | .atOrAbove => decide (m.value ≤ output)
  | .atOrBelow => decide (output ≤ m.value)

/-! ## The three ranks -/

/-- The arbiters re-choose at a change: RUNNING, RUN_TO_MATCH, or STEPPING after the step's tick (R91). -/
def Service.choosing (v : Service) : Bool :=
  match v.hold with
  | .running => true
  | .runToMatch => true
  | .stepping => v.step.tickDone
  | .held => false

/-- Something done to each present rank. An absent rank is passed by (R102). -/
def State.onPresent (s : State) (f : Rank → RankUnit → RankUnit) : State :=
  s.setRanks (PerRank.of fun r => if s.present r then f r (s.ranks.get r) else s.ranks.get r)

/-- Claim changes at each present rank's arbiter (R86, R89). -/
def State.changeClaims (s : State) (f : Rank → Claims → Claims) : State :=
  s.onPresent fun r u => u.change s.service.choosing (s.img.mask.get r) (f r)

/-- The re-choice that ends a hold, at every present rank (R92, R96). -/
def State.endFreeze (s : State) : State :=
  s.onPresent fun r u => RankUnit.reChoose (s.img.mask.get r) { u with ramp := u.ramp.thaw }

/-- Every present rank's generator enters FROZEN (R96). -/
def State.freezeRamps (s : State) : State :=
  s.onPresent fun _ u => { u with ramp := u.ramp.freeze }

/-- The rule of up rate and down rate (R87). -/
def lineRule (i : Image) : Rule := { up := i.upRate, down := i.downRate }

/-- A rule with one rate both ways. -/
def bothWays (rate : Nat) : Rule := { up := rate, down := rate }

/-- The value of a rank's asserted base claim; 0 when none is asserted, which is CONFIG alone (R90). -/
def Claims.baseValue (c : Claims) : Nat :=
  match c.levelling, c.fallback with
  | some x, _ => x.value
  | none, some x => x.value
  | none, none => 0

end Sys2Proof.Machine
end

