-- ==== Sys2Proof/Machine/Operands.lean ====
section
/-! DEFINITION. The coding of quantities in frames and images: shared codes (R143), the CRC (R141), the
frame layout (R140), and each body's layout with its check (R144 to R147). -/

namespace Sys2Proof.Machine

/-! ## Bytes -/

/-- The low eight bits of a number. -/
def byte (n : Nat) : Byte := BitVec.ofNat 8 n

/-- A two-byte field, high byte first (R140). -/
def twoBytes (n : Nat) : List Byte := [byte (n / 256), byte n]

/-- The number in a two-byte field. -/
def number (hi lo : Byte) : Nat := hi.toNat * 256 + lo.toNat

/-- A pair field: two figures of 12 bits in three bytes (R150). -/
def pairField (x y : Nat) : List Byte :=
  [byte (x / 16), byte (x % 16 * 16 + y / 256 % 16), byte y]

/-- A figure of a pair field, 0xFFF where it is none (R150). -/
def figure (x : Option Nat) : Nat := x.getD 0xFFF

/-- A two-byte figure, 0xFFFF where it is none (R150, R153). -/
def wideFigure (x : Option Nat) : Nat := x.getD 0xFFFF

/-- 1 for a set flag. -/
def flag (b : Bool) : Nat := if b then 1 else 0

/-! ## Shared codes (R143) -/

/-- Station mode. -/
def Mode.code : Mode → Nat
  | .config => 0
  | .listen => 1
  | .active => 2
  | .island => 3
  | .mute => 4

/-- The mode of a report field: codes 1 to 4 (R145). -/
def reportMode : Nat → Option Mode
  | 1 => some .listen
  | 2 => some .active
  | 3 => some .island
  | 4 => some .mute
  | _ => none

/-- Reading state. -/
def ReadingState.code : ReadingState → Nat
  | .own => 0
  | .borrowed => 1
  | .unavailable => 2

/-- The reading state of a code. -/
def readingStateOf : Nat → Option ReadingState
  | 0 => some .own
  | 1 => some .borrowed
  | 2 => some .unavailable
  | _ => none

/-- Occupancy. -/
def Occupancy.code : Occupancy → Nat
  | .unknown => 0
  | .occupied => 1
  | .vacant => 2

/-- The occupancy of a code; 3 is out of range. -/
def occupancyOf : Nat → Option Occupancy
  | 0 => some .unknown
  | 1 => some .occupied
  | 2 => some .vacant
  | _ => none

/-- Sample quality; also the rank order of R15. -/
def Quality.code : Quality → Nat
  | .good => 1
  | .saturated => 2
  | .settling => 3
  | .absent => 4
  | .fault => 5

/-- Window quality, 0 for NONE. -/
def worstCode (q : Option Quality) : Nat := (q.map Quality.code).getD 0

/-- A goal in a report field. -/
def goalCode (g : Option Nat) : Nat := g.getD 0xFFFF

/-- The goal of a report field: 0 to 1000, or 0xFFFF for `none`. -/
def goalOf (n : Nat) : Option (Option Nat) :=
  if n ≤ 1000 then some (some n) else if n = 0xFFFF then some none else none

/-- Front direction. -/
def Direction.code : Direction → Nat
  | .unknown => 0
  | .towardHigher => 1
  | .towardLower => 2

/-- The direction of a code. -/
def directionOf : Nat → Option Direction
  | 0 => some .unknown
  | 1 => some .towardHigher
  | 2 => some .towardLower
  | _ => none

/-- Front record state. -/
def FrontState.code : FrontState → Nat
  | .watching => 0
  | .approaching => 1
  | .preRaise => 2
  | .passed => 3
  | .missed => 4

/-- Claim; 0 for none. -/
def claimCode : Option ClaimKind → Nat
  | none => 0
  | some .serviceForce => 1
  | some .switch => 2
  | some .vacancy => 3
  | some .front => 4
  | some .levelling => 5
  | some .fallback => 6

/-- The rank of a code. -/
def rankOf : Nat → Option Rank
  | 0 => some .a
  | 1 => some .b
  | 2 => some .c
  | _ => none

/-- Hold state. -/
def Hold.code : Hold → Nat
  | .running => 0
  | .held => 1
  | .stepping => 2
  | .runToMatch => 3

/-- Hold cause; 0 when none. -/
def holdCauseCode : Option HoldCause → Nat
  | none => 0
  | some .request => 1
  | some .stepDone => 2
  | some .matched => 3

/-- Ramp state (R150). -/
def RampState.code : RampState → Nat
  | .still => 0
  | .rising => 1
  | .falling => 2
  | .frozen => 3

/-- Row-table status (R151). -/
def Status.code : Status → Nat
  | .absent => 0
  | .fresh => 1
  | .stale => 2
  | .lost => 3

/-- Line state (R153). -/
def LineState.code : LineState → Nat
  | .idle => 0
  | .busy => 1
  | .stuck => 2

/-- Receiver state (R153). -/
def RxState.code : RxState → Nat
  | .search => 0
  | .header => 1
  | .body => 2
  | .check => 3

/-- Contention state (R153). -/
def Contention.code : Contention → Nat
  | .txIdle => 0
  | .waitIdle => 1
  | .defer => 2
  | .arbitrating => 3
  | .sending => 4

/-- Press state (R154). -/
def Press.code : Press → Nat
  | .none => 0
  | .timing => 1
  | .long => 2
  | .spent => 3

/-- Long-press direction (R154). -/
def travelCode : Option Travel → Nat
  | none => 0
  | some .up => 1
  | some .down => 2

/-- The claim set of asserted claims (R143). -/
def claimSet (c : Claims) : Nat :=
  flag c.force.isSome + 2 * flag c.switch.isSome + 4 * flag c.vacancy.isSome
    + 8 * flag c.front.isSome + 16 * flag c.levelling.isSome + 32 * flag c.fallback.isSome

/-- The mask set (R143). -/
def maskSet (m : Mask) : Nat := flag m.switch + 2 * flag m.vacancy + 4 * flag m.front

/-- The occupancy byte (R143). -/
def occupancyByte (o : Occupancy) (override held : Bool) : Nat :=
  o.code + 4 * flag override + 8 * flag held

/-- The occupancy byte read: bits 7 to 4 are 0 and code 3 is out of range. -/
def occupancyByteOf (n : Nat) : Option (Occupancy × Bool × Bool) :=
  if 16 ≤ n then none
  else (occupancyOf (n % 4)).map fun o => (o, n / 4 % 2 == 1, n / 8 % 2 == 1)

/-- The ranks named in a rank-set byte; a set naming none, or with bits 7 to 3 set, is out of range. -/
def rankSetOf (b : Byte) : Option (PerRank Bool) :=
  if b.toNat = 0 ∨ 8 ≤ b.toNat then none
  else some ⟨b.getLsbD 0, b.getLsbD 1, b.getLsbD 2⟩

/-! ## CRC (R141) -/

/-- `n` shifts of the CRC register. -/
def crcShift : Nat → Half → Half
  | 0, r => r
  | n + 1, r => crcShift n (if r.getLsbD 15 then (r <<< 1) ^^^ 0x1021#16 else r <<< 1)

/-- One byte taken into the CRC register. -/
def crcByte (r : Half) (b : Byte) : Half := crcShift 8 (r ^^^ (b.setWidth 16 <<< 8))

/-- The CRC of a run of bytes, the register starting at 0xFFFF. -/
def crcOf (bs : List Byte) : Half := bs.foldl crcByte 0xFFFF#16

/-! ## Frames (R140, R142) -/

/-- The sync character. -/
def sync : Byte := 0xA7#8

/-- The class of a kind code (R142). -/
def classOf : Nat → Nat
  | 1 => 2
  | 2 => 3
  | 3 => 0
  | _ => 1

/-- All the characters of a frame: sync, header, body and CRC. -/
def frameChars (kind position seq : Nat) (body : List Byte) : List Byte :=
  let covered := [byte (classOf kind * 64 + position), byte (kind * 16 + seq), byte body.length] ++ body
  sync :: covered ++ twoBytes (crcOf covered).toNat

/-- The 11 bits of a character as they stand on the line, bit 0 first, 1 for recessive: start bit, data
least significant first, a parity bit making the count of recessive bits even, stop bit (R124). -/
def charBits (v : Byte) : BitVec 11 :=
  1#1 ++ BitVec.ofBool ((List.range 8).foldl (fun odd i => odd != v.getLsbD i) false) ++ v ++ 0#1

/-! ## Report bodies (R145, R146) -/

/-- A want list as it stands in a body: the count, then that many distinct positions 0 to 62. -/
def wantOf : List Byte → Option (List Nat)
  | [] => none
  | w :: ps =>
    let want := ps.map BitVec.toNat
    if w.toNat ≤ 4 ∧ ps.length = w.toNat ∧ want.all (· ≤ 62) ∧ want.Nodup then some want else none

/-- A want list laid out. -/
def wantBytes (want : List Nat) : List Byte := byte want.length :: want.map byte

/-- A published record laid out as a FULL REPORT body (R145). -/
def fullBody (p : Published) : List Byte :=
  byte p.mode.code :: twoBytes p.reading ++ [byte p.readingState.code]
    ++ twoBytes (goalCode p.goal.a) ++ twoBytes (goalCode p.goal.b) ++ twoBytes (goalCode p.goal.c)
    ++ [byte (occupancyByte p.occupancy p.override p.held)] ++ twoBytes p.conditions.toNat
    ++ wantBytes p.want

/-- A FULL REPORT body checked and read; `none` when it is malformed (R144, R145). -/
def readFull : List Byte → Option Published
  | m :: r1 :: r0 :: rs :: a1 :: a0 :: b1 :: b0 :: c1 :: c0 :: oc :: k1 :: k0 :: rest =>
    match reportMode m.toNat, readingStateOf rs.toNat, goalOf (number a1 a0), goalOf (number b1 b0),
        goalOf (number c1 c0), occupancyByteOf oc.toNat, wantOf rest with
    | some mode, some state, some ga, some gb, some gc, some (o, override, held), some want =>
      if number r1 r0 ≤ 32767 then
        some { mode := mode, reading := number r1 r0, readingState := state, goal := ⟨ga, gb, gc⟩
               occupancy := o, override := override, held := held
               conditions := BitVec.ofNat 16 (number k1 k0), want := want }
      else none
    | _, _, _, _, _, _, _ => none
  | _ => none

/-- One field of a delta: what a pair sets (R25, R146). -/
inductive DeltaField where
  | mode (m : Mode)
  | reading (n : Nat)
  | readingState (r : ReadingState)
  | goalA (g : Option Nat)
  | goalB (g : Option Nat)
  | goalC (g : Option Nat)
  | occupancyFlags (o : Occupancy) (override held : Bool)
  | conditions (w : Half)
  deriving DecidableEq, Repr

/-- The tag code of a field. -/
def DeltaField.tag : DeltaField → Nat
  | .mode _ => 1
  | .reading _ => 2
  | .readingState _ => 3
  | .goalA _ => 4
  | .goalB _ => 5
  | .goalC _ => 6
  | .occupancyFlags _ _ _ => 7
  | .conditions _ => 8

/-- The value of a field as its two-byte number. -/
def DeltaField.value : DeltaField → Nat
  | .mode m => m.code
  | .reading n => n
  | .readingState r => r.code
  | .goalA g => goalCode g
  | .goalB g => goalCode g
  | .goalC g => goalCode g
  | .occupancyFlags o override held => occupancyByte o override held
  | .conditions w => w.toNat

/-- A pair read: `none` for an unknown tag or a value outside its tag's range. -/
def deltaFieldOf (tag value : Nat) : Option DeltaField :=
  match tag with
  | 1 => (reportMode value).map .mode
  | 2 => if value ≤ 32767 then some (.reading value) else none
  | 3 => (readingStateOf value).map .readingState
  | 4 => (goalOf value).map .goalA
  | 5 => (goalOf value).map .goalB
  | 6 => (goalOf value).map .goalC
  | 7 => (occupancyByteOf value).map fun x => .occupancyFlags x.1 x.2.1 x.2.2
  | 8 => some (.conditions (BitVec.ofNat 16 value))
  | _ => none

/-- One field applied to a record (R25). -/
def DeltaField.apply (p : Published) : DeltaField → Published
  | .mode m => { p with mode := m }
  | .reading n => { p with reading := n }
  | .readingState r => { p with readingState := r }
  | .goalA g => { p with goal := { p.goal with a := g } }
  | .goalB g => { p with goal := { p.goal with b := g } }
  | .goalC g => { p with goal := { p.goal with c := g } }
  | .occupancyFlags o override held => { p with occupancy := o, override := override, held := held }
  | .conditions w => { p with conditions := w }

/-- A DELTA REPORT body as read: its fields and the sender's want list. -/
structure Delta where
  fields : List DeltaField
  want : List Nat
  deriving DecidableEq, Repr

/-- A delta applied to a record: each named field set and the want list replaced (R25). -/
def Delta.apply (d : Delta) (p : Published) : Published :=
  { d.fields.foldl DeltaField.apply p with want := d.want }

/-- The bytes of the pairs. -/
def pairBytes : List DeltaField → List Byte
  | [] => []
  | f :: fs => byte f.tag :: twoBytes f.value ++ pairBytes fs

/-- A DELTA REPORT body laid out (R146). -/
def deltaBody (d : Delta) : List Byte :=
  byte d.fields.length :: pairBytes d.fields ++ wantBytes d.want

/-- `k` pairs read from the front of a body, with what follows them. -/
def readPairs : Nat → List Byte → Option (List DeltaField × List Byte)
  | 0, rest => some ([], rest)
  | k + 1, t :: hi :: lo :: rest =>
    match deltaFieldOf t.toNat (number hi lo), readPairs k rest with
    | some f, some (fs, left) => some (f :: fs, left)
    | _, _ => none
  | _ + 1, _ => none

/-- A DELTA REPORT body checked and read; `none` when it is malformed (R146). -/
def readDelta : List Byte → Option Delta
  | [] => none
  | k :: rest =>
    if 1 ≤ k.toNat ∧ k.toNat ≤ 6 then
      match readPairs k.toNat rest with
      | none => none
      | some (fs, left) =>
        match wantOf left with
        | none => none
        | some want => if (fs.map DeltaField.tag).Nodup then some { fields := fs, want := want } else none
    else none

/-! ## Front notices (R147) -/

/-- A sighting as a notice carries it: position and age in units of 10 ms. -/
structure SightingAge where
  pos : Nat
  age : Nat
  deriving DecidableEq, Repr

/-- A FRONT NOTICE body as read; `pace` is `none` for 0. -/
structure Notice where
  origin : Nat
  serial : Nat
  direction : Direction
  magnitude : Nat
  pace : Option Nat
  sightings : List SightingAge
  deriving DecidableEq, Repr

/-- The bytes of the sightings. -/
def sightingBytes : List SightingAge → List Byte
  | [] => []
  | x :: xs => byte x.pos :: twoBytes x.age ++ sightingBytes xs

/-- A FRONT NOTICE body laid out. -/
def noticeBody (n : Notice) : List Byte :=
  [byte n.origin, byte n.serial, byte n.direction.code, byte n.magnitude]
    ++ twoBytes (n.pace.getD 0) ++ [byte n.sightings.length] ++ sightingBytes n.sightings

/-- The sightings read: exactly `k` of them, and nothing after. -/
def readSightings : Nat → List Byte → Option (List SightingAge)
  | 0, [] => some []
  | k + 1, p :: hi :: lo :: rest =>
    if p.toNat ≤ 62 then
      (readSightings k rest).map fun xs => { pos := p.toNat, age := number hi lo } :: xs
    else none
  | _, _ => none

/-- A FRONT NOTICE body checked and read; `none` when it is malformed (R147). -/
def readNotice : List Byte → Option Notice
  | o :: s :: d :: m :: p1 :: p0 :: n :: rest =>
    match directionOf d.toNat, readSightings n.toNat rest with
    | some dir, some xs =>
      if o.toNat ≤ 62 ∧ s.toNat ≤ 15 ∧ 1 ≤ m.toNat ∧ m.toNat ≤ 100 ∧ number p1 p0 ≤ 10000
          ∧ 1 ≤ n.toNat ∧ n.toNat ≤ 4 ∧ (xs.map SightingAge.pos).Nodup then
        some { origin := o.toNat, serial := s.toNat, direction := dir, magnitude := m.toNat
               pace := if number p1 p0 = 0 then none else some (number p1 p0), sightings := xs }
      else none
    | _, _ => none
  | _ => none

/-! ## Service request bodies (R148) -/

/-- A SERVICE REQUEST body as read: target, tag, kind code and parameters. -/
structure RequestBody where
  target : Nat
  tag : Byte
  kind : Byte
  params : List Byte
  deriving DecidableEq, Repr

/-- A SERVICE REQUEST body checked and read; `none` when it is malformed. -/
def readRequest : List Byte → Option RequestBody
  | t :: tag :: kind :: params =>
    if t.toNat ≤ 63 ∧ params.length ≤ 4 then
      some { target := t.toNat, tag := tag, kind := kind, params := params }
    else none
  | _ => none

end Sys2Proof.Machine
end

