-- ==== Sys2Proof/Machine/Rows.lean ====
section
/-! DEFINITION. The row table: reading and replacing entries, the want-full list, and the near
neighbours (02_the_row_table.md). -/

namespace Sys2Proof.Machine

/-- The entry of position `p`; an ABSENT one outside 0 to 62. -/
def RowTable.entry (t : RowTable) (p : Nat) : Entry := t.entries.getD p emptyEntry

/-- The entry of position `p` replaced. -/
def RowTable.setEntry (t : RowTable) (p : Nat) (e : Entry) : RowTable :=
  { t with entries := t.entries.set p e }

/-- `p` leaves the want-full list; the others keep their order (R24, R27). -/
def RowTable.dropWant (t : RowTable) (p : Nat) : RowTable := { t with want := t.want.filter (· != p) }

/-- `p` is offered to the want-full list (R27). -/
def RowTable.offerWant (t : RowTable) (p : Nat) : RowTable :=
  if t.want.contains p ∨ 4 ≤ t.want.length then t else { t with want := t.want ++ [p] }

/-- A full report with sequence `seq` taken at instant `at_` (R24). -/
def RowTable.takeFull (t : RowTable) (p seq at_ : Nat) (r : Published) : RowTable :=
  (t.setEntry p
    { status := .fresh, baseValid := true, lastSeq := seq, freshness := some at_, record := r }).dropWant p

/-- The delta follows directly on the last report applied to a valid base (R25). -/
def Entry.inChain (e : Entry) (seq : Nat) : Bool := e.baseValid && seq == (e.lastSeq + 1) % 16

/-- A delta in chain taken at instant `at_` (R25). -/
def RowTable.takeDelta (t : RowTable) (p seq at_ : Nat) (d : Delta) : RowTable :=
  let e := t.entry p
  t.setEntry p { e with status := .fresh, lastSeq := seq, freshness := some at_, record := d.apply e.record }

/-- A gap taken at instant `at_`: base cleared, entry refreshed, `p` offered to the list (R26). -/
def RowTable.takeGap (t : RowTable) (p at_ : Nat) : RowTable :=
  (t.setEntry p
    { t.entry p with status := .fresh, baseValid := false, freshness := some at_ }).offerWant p

/-- The record of position `p` when its entry is FRESH (R33). -/
def RowTable.freshRecord (t : RowTable) (p : Nat) : Option Published :=
  let e := t.entry p
  if p ≤ 62 ∧ e.status = .fresh then some e.record else none

/-- The distances searched, nearest first: 1 to the reach. -/
def distances (reach : Nat) : List Nat := (List.range reach).map (· + 1)

/-- The near neighbour below: the FRESH entry at the highest position from own − R to own − 1 (R33). -/
def RowTable.below (t : RowTable) (own reach : Nat) : Option Published :=
  (distances reach).findSome? fun d => if d ≤ own then t.freshRecord (own - d) else none

/-- The near neighbour above: the FRESH entry at the lowest position from own + 1 to own + R (R33). -/
def RowTable.above (t : RowTable) (own reach : Nat) : Option Published :=
  (distances reach).findSome? fun d => t.freshRecord (own + d)

/-- The near neighbours, below first, as a reader finds them now (R33). -/
def State.neighbours (s : State) : List Published :=
  (s.rows.below s.own s.img.reach).toList ++ (s.rows.above s.own s.img.reach).toList

end Sys2Proof.Machine
end

