-- ==== Sys2Proof/Machine/Levels.lean ====
section
/-! DEFINITION. From a reading to a level: need, raw level, lift floor, dead band, and the unbanded
level the front tracker asks for (03_row_levelling.md, R46 to R50). -/

namespace Sys2Proof.Machine

/-- The light rank `p` still needs at reading `x` (R46). -/
def need (target : Nat) (p : RankParams) (x : Nat) : Nat := target - x * p.factor / 1000

/-- The raw level for a need: 0 when cut off, else the need over E rounded up, capped at 1000 and
raised to the minimum (R47). -/
def rawLevel (target : Nat) (p : RankParams) (x : Nat) : Nat :=
  let n := need target p x
  if n = 0 ∧ p.cutOff then 0 else max p.minimum (min 1000 ((n * 1000 + p.full - 1) / p.full))

/-- The figure one near neighbour gives for rank `r`: its goal less D, 0 when that is below 0 (R48). -/
def liftFrom (stepLimit : Nat) (r : Rank) (n : Published) : Nat :=
  if n.readingState = .unavailable then 0
  else match n.goal.get r with
    | none => 0
    | some g => g - stepLimit

/-- The lift floor of rank `r` from the near neighbours (R48). -/
def liftFloorOf (stepLimit : Nat) (r : Rank) (ns : List Published) : Nat :=
  ns.foldl (fun acc n => max acc (liftFrom stepLimit r n)) 0

/-- The goal after a tick whose candidate is `cand` (R50). -/
def bandedGoal (deadBand minimum liftFloor cand : Nat) : Option Nat → Nat
  | none => cand
  | some g =>
    if g + deadBand ≤ cand ∨ cand + deadBand ≤ g
        ∨ ((cand = minimum ∨ cand = 0 ∨ cand = 1000) ∧ cand ≠ g) ∨ g < liftFloor then cand
    else g

/-- The unbanded level of rank `r` for a daylight figure `y` (R49). -/
def State.unbanded (s : State) (r : Rank) (y : Nat) : Nat :=
  max (rawLevel s.img.target (s.img.rank.get r) y) (s.levelling.liftFloor.get r)

/-- The reading chosen at a tick: the own mean, the neighbours' own readings, or none (R43, R44). -/
def chooseReading (w : WindowRecord) (ns : List Published) : Nat × ReadingState :=
  match w.valid, w.mean with
  | true, some m => (m, .own)
  | _, _ =>
    match (ns.filter fun n => n.readingState = .own).map Published.reading with
    | [] => (0, .unavailable)
    | x :: xs => ((x :: xs).foldl (· + ·) 0 / (x :: xs).length, .borrowed)

/-- The goal a rank publishes: `none` when absent or faulted, the fallback level under FALLBACK,
otherwise the goal (R56). -/
def State.publishedGoal (s : State) (r : Rank) : Option Nat :=
  let u := s.ranks.get r
  if ¬ s.present r ∨ u.ramp.faulted then none
  else if u.claims.fallback.isSome then some s.img.fallback
  else s.levelling.goal.get r

/-- The published goals set from the claims, goals and faults as they stand (R56). -/
def State.publishGoals (s : State) : State :=
  s.setLevelling { s.levelling with published := PerRank.of s.publishedGoal }

/-- FALLBACK asserted and LEVELLING withdrawn in one change (R54). -/
def fallbackClaims (i : Image) (c : Claims) : Claims :=
  { c with levelling := none, fallback := some { value := i.fallback, rule := lineRule i } }

/-- LEVELLING asserted at the goal and FALLBACK withdrawn in one change (R53). -/
def levellingClaims (i : Image) (goal : Nat) (c : Claims) : Claims :=
  { c with levelling := some { value := goal, rule := lineRule i }, fallback := none }

end Sys2Proof.Machine
end

