-- ==== Sys2Proof/Machine/Wire.lean ====
section
/-! DEFINITION. ROW as a wire: what the station drives on it, the level it reads there, the start edges
and samples the receiver takes from that level, the discard of a frame under assembly
(07_row_line_signalling.md, R124 to R129, R132), and the comparison of the bits the station drives with
those it reads back (R163, R164). The level follows the other peers at their commands and the station's own
frame bit by bit; the own bits are put on ROW when a command of the line reads it, each at its own instant
(log 25). -/

namespace Sys2Proof.Machine

/-! ## What the station drives (R124) -/

/-- Bit `k` of the frame as the station drives it, `true` for recessive; nothing after its last bit. -/
def Flight.bit (f : Flight) (k : Nat) : Bool :=
  match f.chars[k / 11]? with
  | some v => (charBits v).getLsbD (k % 11)
  | none => true

/-- When the last bit of the frame is over: its characters follow one another back to back (R124). -/
def Flight.ends (f : Flight) : Nat := f.start + bits (11 * f.chars.length)

/-- How many bits of the frame have begun by the instant `t`. -/
def Flight.begunBy (f : Flight) (t : Nat) : Nat :=
  if t < f.start then 0 else min (11 * f.chars.length) ((t - f.start) / bits 1 + 1)

/-- The station pulls ROW low: the last bit put on it is dominant, and no bit read back wrong. -/
def Flight.low (f : Flight) : Bool :=
  match f.driven with
  | 0 => false
  | k + 1 => !f.wrong && !f.bit k

/-- The sample point of bit `k` of the frame, half a bit time after it begins (R125, R163). -/
def Flight.sampleAt (f : Flight) (k : Nat) : Nat := f.start + bits k + bits 1 / 2

/-- The last bit put on ROW is still to be read back. -/
def Flight.awaits (f : Flight) : Bool := !f.wrong && decide (f.read < f.driven)

/-- The scheduler is driving a frame: it read no bit back wrong, and the last bit is not over. -/
def State.drives (s : State) : Bool :=
  match s.tx.flight with
  | some f => !f.wrong && decide (s.clock < f.ends)
  | none => false

/-- How many bits of the frame in flight have read back right. -/
def State.bitsRead (s : State) : Nat :=
  match s.tx.flight with
  | some f => f.read
  | none => 0

/-- ROW reads dominant: the station drives a dominant bit, or another peer pulls (R124). -/
def State.rowLow (s : State) : Bool :=
  s.line.pulled || (match s.tx.flight with
    | some f => f.low
    | none => false)

/-! ## Characters (R125) -/

/-- How many of the 11 sample points, half a bit time after the start edge and each bit time from there,
have come by the instant `t`. -/
def pointsBy (start t : Nat) : Nat :=
  min 11 ((t + bits 1 / 2 - start) / bits 1)

/-- The character with the samples up to `t` taken, ROW having read `low` since the last of them. -/
def RxChar.sampledTo (c : RxChar) (t : Nat) (low : Bool) : RxChar :=
  { c with samples := c.samples ++ List.replicate (pointsBy c.start t - c.samples.length) (!low) }

/-- The first sample reads recessive: the start edge was a glitch, and no character is formed. -/
def RxChar.glitch (c : RxChar) : Bool := c.samples.head? == some true

/-- A character is under assembly at `t`: no glitch, and its 11 bit times are not over. -/
def Receiver.assembles (x : Receiver) (t : Nat) : Bool :=
  match x.char with
  | some c => !c.glitch && decide (t < c.start + bits 11)
  | none => false

/-- The samples up to `t` taken at the level ROW has read since the last of them. -/
def State.sampleTo (s : State) (t : Nat) : State :=
  s.setRx { s.rx with char := s.rx.char.map fun c => c.sampledTo t s.rowLow }

/-- The receiver back in SEARCH with no frame under assembly (R131). -/
def State.rxSearch (s : State) : State := s.setRx { s.rx with state := .search, frame := none }

/-- The frame on the line now is one this station touched (R129, R132): the frame under assembly says so,
or, with none, the station began it. -/
def State.touchedFrame (s : State) : Bool :=
  match s.rx.frame with
  | some f => f.touched
  | none => s.rx.ownStart

/-- A frame under assembly discarded: RX_FRAME_ERROR is latched unless the kind was unknown or the frame
is one this station touched (R132). -/
def State.discardFrame (s : State) (unknownKind : Bool) : State :=
  (s.latchIf (!unknownKind && !s.touchedFrame) .rxFrameError).rxSearch

/-- A start edge that follows an idle point discards a frame still under assembly (R132). -/
def State.discardAbandoned (s : State) : State :=
  if s.rx.afterIdle && s.rx.frame.isSome then s.discardFrame false else s

/-- A start edge at `t`, with no character under assembly and the line not STUCK: a character begins and
the after-idle mark is cleared. One that follows an idle point discards a frame still under assembly, and
a new frame may begin there (R125, R127, R129, R132). -/
def State.startEdge (s : State) (t : Nat) : State :=
  if s.rx.assembles t || s.line.state == .stuck then s
  else
    let s := s.discardAbandoned
    s.setRx { s.rx with
      char := some { start := t, afterIdle := s.rx.afterIdle, samples := [] }
      ownStart := s.rx.ownStart && !s.rx.afterIdle
      afterIdle := false }

/-! ## The level of ROW (R126 to R128) -/

/-- ROW goes from recessive to dominant at `t`. -/
def State.rowFalls (s : State) (t : Nat) : State :=
  (s.setLine { s.line with
    state := if s.line.state = .idle then .busy else s.line.state
    recessiveTime := none, dominantTime := some t, releaseTime := none }).startEdge t

/-- ROW returns to recessive at `t`. -/
def State.rowRises (s : State) (t : Nat) : State :=
  s.setLine { s.line with
    dominantTime := none, recessiveTime := some t
    releaseTime := if s.line.state = .stuck then some t else none }

/-- What pulls ROW has changed at `t`, before which it read `wasLow`. -/
def State.rowBecomes (s : State) (t : Nat) (wasLow : Bool) : State :=
  if s.rowLow = wasLow then s else if s.rowLow then s.rowFalls t else s.rowRises t

/-- The other peers begin to pull ROW, or leave it, now. -/
def State.peersPull (s : State) (pulled : Bool) : State :=
  let u := s.sampleTo s.clock
  (u.setLine { u.line with pulled := pulled }).rowBecomes s.clock s.rowLow

/-! ## The station's own frame on ROW (R124, R163, R164) -/

/-- The receiver's frame with `driving` cleared (R129). -/
def Receiver.notDriving (x : Receiver) : Receiver :=
  { x with frame := x.frame.map fun f => { f with driving := false } }

/-- The last bit put on ROW compared with the level ROW reads. Where they differ the station stops driving
at once, and the receiver's `driving` is cleared (R129, R163, R164). -/
def State.compareBit (s : State) (f : Flight) : State :=
  if s.rowLow = f.low then s.setTx { s.tx with flight := some { f with read := f.driven } }
  else (s.setTx { s.tx with flight := some { f with wrong := true } }).setRx s.rx.notDriving

/-- The last bit put on ROW read back, if its sample point has come by `t`. -/
def State.readBackTo (s : State) (t : Nat) : State :=
  match s.tx.flight with
  | some f => if f.awaits && decide (f.sampleAt (f.driven - 1) ≤ t) then s.compareBit f else s
  | none => s

/-- The next bit of the frame in flight put on ROW. -/
def State.driveBit (s : State) (f : Flight) : State :=
  let t := f.start + bits f.driven
  let u := s.sampleTo t
  (u.setTx { u.tx with flight := some { f with driven := f.driven + 1 } }).rowBecomes t s.rowLow

/-- The next `n` bits of the frame in flight put on ROW, each once the one before it has read back right. -/
def State.driveBits : Nat → State → State
  | 0, s => s
  | n + 1, s =>
    match s.tx.flight with
    | some f =>
      let u := s.readBackTo (f.start + bits f.driven)
      match u.tx.flight with
      | some g => if g.wrong then u else State.driveBits n (u.driveBit g)
      | none => u
    | none => s

/-- ROW with every bit of the frame in flight that has begun by `t` put on it, each at its own instant, and
with every sample point that has come by `t` read back, up to the first bit that reads back wrong. -/
def State.driveTo (s : State) (t : Nat) : State :=
  match s.tx.flight with
  | some f => (s.driveBits (f.begunBy t - f.driven)).readBackTo t
  | none => s

/-- ROW as it stands now. -/
def State.driveNow (s : State) : State := s.driveTo s.clock

/-- The station stops driving now, and ROW is left to the other peers. -/
def State.releaseRow (s : State) : State :=
  match s.tx.flight with
  | some _ =>
    let s := s.driveNow
    let u := s.sampleTo s.clock
    (u.setTx { u.tx with flight := none }).rowBecomes s.clock s.rowLow
  | none => s

/-- The recessive time starts from 0 at the end of a character whose stop sample was recessive, unless
ROW has fallen again (R126). -/
def State.restartRecessive (s : State) : State :=
  if s.rowLow then s else s.setLine { s.line with recessiveTime := some s.clock }

end Sys2Proof.Machine
end

