-- ==== Sys2Proof/Machine/Queue.lean ====
section
/-! DEFINITION. The transmit queue: joining, reports falling due, notices and results offered, and the
stopping of an attempt (09_transmit_queue_and_contention.md, R155 to R160, R167). -/

namespace Sys2Proof.Machine

/-- The class of the frame an entry will become (R155). -/
def EntryKind.frameClass : EntryKind → Nat
  | .notice _ _ => 0
  | .result _ => 1
  | .full => 2
  | .delta => 3

/-- The entry is a report marker. -/
def QueueEntry.isMarker (e : QueueEntry) : Bool :=
  match e.kind with
  | .full => true
  | .delta => true
  | _ => false

/-- The entry is a front notice. -/
def QueueEntry.isNotice (e : QueueEntry) : Bool :=
  match e.kind with
  | .notice _ _ => true
  | _ => false

/-- The entry is a service result. -/
def QueueEntry.isResult (e : QueueEntry) : Bool :=
  match e.kind with
  | .result _ => true
  | _ => false

/-- The queue with an entry in its place: after every entry of its class or a lower one (R155). -/
def insertEntry (q : List QueueEntry) (e : QueueEntry) : List QueueEntry :=
  q.filter (fun x => x.kind.frameClass ≤ e.kind.frameClass) ++ [e]
    ++ q.filter (fun x => e.kind.frameClass < x.kind.frameClass)

/-- An entry joining in TX_IDLE makes the state WAIT_IDLE (R166). -/
def Contention.onJoin : Contention → Contention
  | .txIdle => .waitIdle
  | c => c

/-- An entry joins the queue with entry time now and attempt count 0. -/
def State.join (s : State) (k : EntryKind) : State :=
  s.setTx { s.tx with
    queue := insertEntry s.tx.queue { kind := k, entryTime := s.now, attempts := 0, inFlight := false }
    contention := s.tx.contention.onJoin }

/-- The queue accepts entries: mode ACTIVE and no parting report waiting (R155, R160, R167). -/
def State.queueOpen (s : State) : Bool := s.mode == .active && !s.tx.parting

/-- A marker that becomes FULL keeps its entry time and attempt count (R156). -/
def upgradeMarker (e : QueueEntry) : QueueEntry :=
  match e.kind with
  | .delta => { e with kind := .full }
  | _ => e

/-- The marker has to wait for its attempt to end before it can become FULL: a DELTA marker in flight whose
frame is a DELTA REPORT. One composed as a FULL REPORT is judged as a full report for the rest of its attempt
(R156, R162). -/
def Tx.holdsOver (t : Tx) (m : QueueEntry) : Bool := m.inFlight && !t.flight.any Flight.asFull

/-- A FULL report falls due: the marker changes as R156's table gives. A FULL marker absorbs it; a DELTA marker
in flight with a DELTA REPORT sets held-over FULL. One in flight with a FULL REPORT becomes FULL at once, being
judged as one (R162; log 16): that report answers if it completes, and the marker's next attempt if not
(R156). -/
def State.fullDue (s : State) : State :=
  if s.queueOpen then
    match s.tx.queue.find? QueueEntry.isMarker with
    | none => s.join .full
    | some m =>
      if m.kind = .full then s
      else if s.tx.holdsOver m then s.setTx { s.tx with heldFull := true }
      else s.setTx { s.tx with queue := s.tx.queue.map upgradeMarker }
  else s

/-- A DELTA report falls due (R156). -/
def State.deltaDue (s : State) : State :=
  if s.queueOpen then
    match s.tx.queue.find? QueueEntry.isMarker with
    | none => s.join .delta
    | some _ => s
  else s

/-- The entry is a notice for this identity that is not in flight. -/
def QueueEntry.waitsFor (origin serial : Nat) (e : QueueEntry) : Bool :=
  e.kind == .notice origin serial && !e.inFlight

/-- The first notice that is not in flight leaves: notices stand oldest first (R155, R159). -/
def dropOldestNotice : List QueueEntry → List QueueEntry
  | [] => []
  | e :: es => if e.isNotice && !e.inFlight then es else e :: dropOldestNotice es

/-- The front tracker offers a notice for an identity (R159). -/
def State.offerNotice (s : State) (origin serial : Nat) : State :=
  if s.queueOpen then
    let q := s.tx.queue.filter fun e => !e.waitsFor origin serial
    let q := if 2 ≤ (q.filter QueueEntry.isNotice).length then dropOldestNotice q else q
    (s.setTx { s.tx with queue := q }).join (.notice origin serial)
  else s

/-- The scheduler stops driving at once: ROW is left to the other peers, no frame is in flight, and the
receiver's `driving` is cleared (R129, R163, R164, R167). -/
def State.stopDriving (s : State) : State :=
  let s := s.releaseRow
  (s.setTx { s.tx with queue := s.tx.queue.map fun e => { e with inFlight := false } }).setRx
    s.rx.notDriving

/-- The state an attempt or a DEFER leaves behind: WAIT_IDLE with entries, TX_IDLE without. -/
def restingState (q : List QueueEntry) : Contention := if q.isEmpty then .txIdle else .waitIdle

/-- Any attempt stopped and the queue emptied, with held-over FULL and the parting mark cleared (R167).
The service engine is told by the caller. -/
def State.emptyQueue (s : State) : State :=
  let s := s.stopDriving
  s.setTx { s.tx with queue := [], heldFull := false, parting := false, contention := .txIdle }

/-- The held-over FULL of an attempt of a DELTA marker that was lost or garbled below the limit: the
marker becomes FULL and the mark is cleared (R156). -/
def Tx.useHeldFull (t : Tx) : Tx :=
  if t.heldFull then { t with heldFull := false, queue := t.queue.map upgradeMarker } else t

/-- The published record as it stands, for comparison and for composition (R145, R162). A parting
report carries mode MUTE and the DUPLICATE_POSITION condition (R137). -/
def State.publishedRecord (s : State) : Published :=
  { mode := if s.tx.parting then .mute else s.mode
    reading := s.levelling.reading
    readingState := s.levelling.readingState
    goal := s.levelling.published
    occupancy := s.occ.state
    override := s.overriding
    held := s.heldFlag
    conditions := if s.tx.parting then s.conditions ||| Condition.duplicatePosition.word else s.conditions
    want := s.rows.want }

/-- A published goal has moved by the threshold of 20, or between a level and `none` (R158). -/
def goalMoved : Option Nat → Option Nat → Bool
  | none, none => false
  | some x, some y => decide (y + 20 ≤ x ∨ x + 20 ≤ y)
  | _, _ => true

/-- The published record differs from the basis enough for a DELTA to fall due (R158). -/
def worthDelta (p b : Published) : Bool :=
  goalMoved p.goal.a b.goal.a || goalMoved p.goal.b b.goal.b || goalMoved p.goal.c b.goal.c
    || decide (p.reading ≠ b.reading
        ∧ b.reading / 8 ≤ (if p.reading < b.reading then b.reading - p.reading else p.reading - b.reading))
    || p.readingState != b.readingState || p.occupancy != b.occupancy || p.override != b.override
    || p.held != b.held || p.mode != b.mode || p.conditions != b.conditions || p.want != b.want

/-- The last completion is none or lies 500 ms or more back (R158). -/
def State.reportSpacingOver (s : State) : Bool :=
  match s.tx.lastDone with
  | none => true
  | some t => decide (500 ≤ (s.now - t).toNat)

/-- The comparison at the end of each levelling tick (R158). -/
def State.deltaCheck (s : State) : State :=
  let worth : Bool := match s.tx.basis with
    | none => true
    | some b => worthDelta s.publishedRecord b
  if s.mode = .active ∧ s.reportSpacingOver ∧ worth then s.deltaDue else s

/-- The tagged fields in which `p` differs from the basis, in ascending tag order (R162). -/
def differingFields (p b : Published) : List DeltaField :=
  (if p.mode = b.mode then [] else [.mode p.mode])
    ++ (if p.reading = b.reading then [] else [.reading p.reading])
    ++ (if p.readingState = b.readingState then [] else [.readingState p.readingState])
    ++ (if p.goal.a = b.goal.a then [] else [.goalA p.goal.a])
    ++ (if p.goal.b = b.goal.b then [] else [.goalB p.goal.b])
    ++ (if p.goal.c = b.goal.c then [] else [.goalC p.goal.c])
    ++ (if p.occupancy = b.occupancy ∧ p.override = b.override ∧ p.held = b.held then []
        else [.occupancyFlags p.occupancy p.override p.held])
    ++ (if p.conditions = b.conditions then [] else [.conditions p.conditions])

/-- What a DELTA marker is composed as at its attempt (R162). -/
inductive DeltaPlan where
  | full
  | delta (d : Delta)
  | nothing
  deriving DecidableEq, Repr

/-- R162's table of findings. -/
def planDelta (p : Published) : Option Published → DeltaPlan
  | none => .full
  | some b =>
    let fields := differingFields p b
    if 6 < fields.length then .full
    else if fields.isEmpty then (if p.want = b.want then .nothing else .full)
    else .delta { fields := fields, want := p.want }

end Sys2Proof.Machine
end

