-- ==== Sys2Proof/Machine/FrontTable.lean ====
section
/-! DEFINITION. The front table: sightings, matching, direction, pace, arrival, eviction, and the FRONT
claim (04_daylight_fronts.md, R65 to R82). -/

namespace Sys2Proof.Machine

/-! ## Identities -/

/-- The record has this identity. -/
def FrontRecord.is (o n : Nat) (f : FrontRecord) : Bool := f.origin == o && f.serial == n

/-- The smaller identity: by origin, then by serial (R65). -/
def FrontRecord.idBefore (f g : FrontRecord) : Bool :=
  decide (f.origin < g.origin ∨ (f.origin = g.origin ∧ f.serial < g.serial))

/-- The record with this identity. -/
def findFront (t : List FrontRecord) (o n : Nat) : Option FrontRecord := t.find? (FrontRecord.is o n)

/-- The table without the record of this identity. -/
def removeFront (t : List FrontRecord) (o n : Nat) : List FrontRecord := t.filter fun f => !f.is o n

/-- A record put in its place in order of identity. -/
def insertFront (f : FrontRecord) : List FrontRecord → List FrontRecord
  | [] => [f]
  | g :: gs => if f.idBefore g then f :: g :: gs else g :: insertFront f gs

/-- The record of `f`'s identity replaced by `f`. -/
def replaceFront (t : List FrontRecord) (f : FrontRecord) : List FrontRecord :=
  t.map fun g => if g.is f.origin f.serial then f else g

/-! ## Sighting lists (R66) -/

/-- A sighting put in order of time, newest first, behind those of the same time. -/
def insertSighting (x : Sighting) : List Sighting → List Sighting
  | [] => [x]
  | y :: ys => if since y.time x.time < 0 then x :: y :: ys else y :: insertSighting x ys

/-- A sighting added: the list is put back in order, and a fifth, the oldest, leaves. -/
def addSighting (x : Sighting) (xs : List Sighting) : List Sighting := (insertSighting x xs).take 4

/-- The sighting at a position. -/
def sightingAt (p : Nat) (xs : List Sighting) : Option Sighting := xs.find? fun y => y.pos == p

/-- The list without the sighting at a position. -/
def withoutPos (p : Nat) (xs : List Sighting) : List Sighting := xs.filter fun y => y.pos != p

/-- An own sighting joins: it replaces the time of a sighting at its position (R66). -/
def ownSighting (x : Sighting) (xs : List Sighting) : List Sighting :=
  addSighting x (withoutPos x.pos xs)

/-- A notice's sighting merged: a later time replaces, an earlier or equal one is discarded (R66). -/
def mergeSighting (xs : List Sighting) (x : Sighting) : List Sighting :=
  match sightingAt x.pos xs with
  | some y => if 0 < since x.time y.time then ownSighting x xs else xs
  | none => addSighting x xs

/-- A notice's sightings as local times: now less the age times 10 ms (R71). -/
def sightingsOf (now : Time) (n : Notice) : List Sighting :=
  n.sightings.map fun a => { pos := a.pos, time := now - BitVec.ofNat 32 (a.age * 10) }

/-! ## Direction, pace, arrival (R75, R76) -/

/-- The distance between two positions. -/
def apart (p q : Nat) : Nat := if p < q then q - p else p - q

/-- Direction and pace from the two newest sightings, when they determine them (R75). -/
def courseOf : List Sighting → Option (Direction × Option Nat)
  | x :: y :: _ =>
    if 0 < since x.time y.time then
      let pace := max 1 ((since x.time y.time).toNat / apart x.pos y.pos)
      some (if y.pos < x.pos then .towardHigher else .towardLower, if 10000 < pace then none else some pace)
    else none
  | _ => none

/-- The record with direction and pace recomputed, kept where the list does not determine them. -/
def FrontRecord.recourse (f : FrontRecord) : FrontRecord :=
  match courseOf f.sightings with
  | some (d, p) => { f with direction := d, pace := p }
  | none => f

/-- The arrival at the own position when the front heads for it (R76). -/
def FrontRecord.arrivalAt (f : FrontRecord) (own : Nat) : Option Time :=
  match f.sightings, f.pace with
  | x :: _, some pace =>
    let heads : Bool := match f.direction with
      | .towardHigher => decide (x.pos < own)
      | .towardLower => decide (own < x.pos)
      | .unknown => false
    if heads && (sightingAt own f.sightings).isNone then some (later x.time (apart x.pos own * pace))
    else none
  | _, _ => none

/-- Arrival and state set after direction and pace (R76). That a record which leaves PRE_RAISE here keeps its
pre-raise values is the model's choice (log 34). -/
def FrontRecord.restate (f : FrontRecord) (own lead : Nat) (now : Time) : FrontRecord :=
  match f.state with
  | .passed => { f with arrival := none }
  | .missed => f
  | old =>
    match f.arrivalAt own with
    | none => { f with arrival := none, state := .watching }
    | some a =>
      if 3000 ≤ since now a then { f with arrival := some a, state := .missed, missedTime := some now }
      else if old = .preRaise ∨ 0 ≤ since now a + lead then { f with arrival := some a, state := .preRaise }
      else { f with arrival := some a, state := .approaching }

/-! ## Pre-raise values and the FRONT claim (R80, R81) -/

/-- The pre-raise value of rank `r` for a front's magnitude (R80). -/
def State.preRaiseValue (s : State) (magnitude : Nat) (r : Rank) : Nat :=
  if s.levelling.readingState = .unavailable then s.img.fallback
  else s.unbanded r (s.levelling.reading * (100 - magnitude) / 100)

/-- A PRE_RAISE record with its values formed from the reading, floors and magnitude that stand (R80). -/
def State.formPreRaise (s : State) (f : FrontRecord) : FrontRecord :=
  if f.state = .preRaise then { f with preRaise := PerRank.of (s.preRaiseValue f.magnitude) } else f

/-- A record recomputed after its sighting list changed: course, then arrival and state, then its
pre-raise value (R66, R75, R76, R80). -/
def State.recompute (s : State) (f : FrontRecord) : FrontRecord :=
  s.formPreRaise (f.recourse.restate s.own s.img.leadMs s.now)

/-- The FRONT claim's value on rank `r`, or `none` when it is withdrawn (R81). -/
def State.frontValue (s : State) (r : Rank) (c : Claims) : Option Nat :=
  let raises := (s.fronts.table.filter fun f => f.state = .preRaise).map fun f => f.preRaise.get r
  if s.fronts.fastActive ∨ ¬ raises.isEmpty then
    some (raises.foldl max (max c.baseValue (if s.fronts.fastActive then s.fronts.fastValue.get r else 0)))
  else none

/-- The FRONT claim asserted, revalued or withdrawn on each present rank (R81). -/
def State.updateFrontClaim (s : State) : State :=
  s.changeClaims fun r c =>
    { c with front := (s.frontValue r c).map fun v => { value := v, rule := lineRule s.img } }

/-- The fast-track values formed from the fast mean, when it is defined (R70). -/
def State.formFastValues (s : State) : State :=
  match s.sampler.fastMean with
  | some y => s.setFronts { s.fronts with fastValue := PerRank.of fun r => s.unbanded r y }
  | none => s

/-! ## Eviction (R73) -/

/-- Of two candidates the one to evict: the one standing first unless the other is strictly worse. The
table stands in order of identity, so ties go to the smaller identity. -/
def pickBy (worse : FrontRecord → FrontRecord → Bool) : List FrontRecord → Option FrontRecord
  | [] => none
  | f :: fs => some (fs.foldl (fun best g => if worse g best then g else best) f)

/-- The record with the older `last_update`. -/
def olderUpdate (f g : FrontRecord) : Bool := decide (since f.lastUpdate g.lastUpdate < 0)

/-- The record with the later arrival. -/
def laterArrival (f g : FrontRecord) : Bool :=
  match f.arrival, g.arrival with
  | some x, some y => decide (0 < since x y)
  | _, _ => false

/-- The records of one state. -/
def inState (st : FrontState) (t : List FrontRecord) : List FrontRecord := t.filter fun f => f.state = st

/-- The record R73 evicts, if any. -/
def victim (t : List FrontRecord) : Option FrontRecord :=
  pickBy olderUpdate (inState .missed t) <|> pickBy olderUpdate (inState .watching t)
    <|> pickBy laterArrival (inState .approaching t)

/-- Room for one more record: the table, and whether FRONT_TABLE_FULL is latched; `none` when no record
can be evicted. -/
def makeRoom (t : List FrontRecord) : Option (List FrontRecord × Bool) :=
  if t.length < 4 then some (t, false)
  else (victim t).map fun f => (removeFront t f.origin f.serial, true)

/-! ## Notices (R71 to R74) -/

/-- A notice merged into the record of its identity (R72). -/
def State.mergeNotice (s : State) (n : Notice) (f : FrontRecord) : FrontRecord :=
  let merged := (sightingsOf s.now n).foldl mergeSighting f.sightings
  let f := { f with sightings := merged, magnitude := max f.magnitude n.magnitude, lastUpdate := s.now }
  let f := if courseOf merged = none ∧ f.direction = .unknown then
      { f with direction := n.direction, pace := n.pace <|> f.pace } else f
  s.recompute f

/-- The record a notice creates (R73). R80 forms its pre-raise values when it becomes PRE_RAISE; until then
the model holds 0 (DESIGN CHOICE, log 34). -/
def State.newFromNotice (s : State) (n : Notice) : FrontRecord :=
  s.recompute
    { origin := n.origin, serial := n.serial, direction := n.direction, magnitude := n.magnitude
      sightings := (sightingsOf s.now n).foldl mergeSighting [], pace := n.pace, arrival := none
      state := .watching, lastUpdate := s.now, ownTime := none, preRaise := PerRank.const 0
      missedTime := none }

/-- A FRONT NOTICE taken by the front tracker (R72, R73). -/
def State.takeNotice (s : State) (n : Notice) : State :=
  match findFront s.fronts.table n.origin n.serial with
  | some f =>
    (s.setFronts { s.fronts with table := replaceFront s.fronts.table (s.mergeNotice n f) }).updateFrontClaim
  | none =>
    match makeRoom s.fronts.table with
    | none => s.latch .frontTableFull
    | some (t, evicted) =>
      ((s.setFronts { s.fronts with table := insertFront (s.newFromNotice n) t }).latchIf evicted
        .frontTableFull).updateFrontClaim

/-! ## Own sightings (R67 to R70) -/

/-- How far the record's newest sighting lies from the own position. -/
def FrontRecord.nearness (own : Nat) (f : FrontRecord) : Nat :=
  match f.sightings with
  | x :: _ => apart x.pos own
  | [] => 64

/-- The record matches an own sighting now (R67). -/
def FrontRecord.matchesOwn (own : Nat) (now : Time) (f : FrontRecord) : Bool :=
  let near : Bool := match f.sightings with
    | x :: _ => decide (apart x.pos own ≤ 2 ∧ since now x.time < 5000)
    | [] => false
  let due : Bool := match f.arrival with
    | some a => decide (-2000 ≤ since now a ∧ since now a ≤ 2000)
    | none => false
  match f.state with
  | .missed => false
  | .approaching => due || (f.direction == .unknown && near)
  | .preRaise => due || (f.direction == .unknown && near)
  | _ => f.direction == .unknown && near

/-- The matching record whose newest sighting lies nearest, ties to the smaller identity (R67). -/
def State.matchedFront (s : State) : Option FrontRecord :=
  pickBy (fun f g => decide (f.nearness s.own < g.nearness s.own))
    (s.fronts.table.filter (FrontRecord.matchesOwn s.own s.now))

/-- The matched record with the own sighting attached: it is PASSED and its pre-raise ends (R68). That its
pre-raise values then keep their last figures is the model's choice (log 34). -/
def State.attach (s : State) (magnitude : Nat) (f : FrontRecord) : FrontRecord :=
  { f with
    sightings := ownSighting { pos := s.own, time := s.now } f.sightings
    magnitude := max f.magnitude magnitude, ownTime := some s.now, lastUpdate := s.now
    state := .passed, arrival := none }.recourse

/-- The record an own sighting creates (R69), its pre-raise values never formed: the model holds 0
(DESIGN CHOICE, log 34). -/
def State.newOwnFront (s : State) (magnitude : Nat) : FrontRecord :=
  { origin := s.own, serial := s.fronts.serial, direction := .unknown, magnitude := magnitude
    sightings := [{ pos := s.own, time := s.now }], pace := none, arrival := none, state := .passed
    lastUpdate := s.now, ownTime := some s.now, preRaise := PerRank.const 0, missedTime := none }

/-- The own sighting placed in a record, with the identity of the record that holds it, if any
(R67 to R69). That the record it was attached to counts as holding it, and its notice is offered, even where it
leaves the list at once behind four sightings of the same millisecond (R64, R66), is the model's choice
(log 42). -/
def State.placeSighting (s : State) (magnitude : Nat) : State × Option (Nat × Nat) :=
  match s.matchedFront with
  | some f =>
    (s.setFronts { s.fronts with table := replaceFront s.fronts.table (s.attach magnitude f) },
      some (f.origin, f.serial))
  | none =>
    let t := removeFront s.fronts.table s.own s.fronts.serial
    match makeRoom t with
    | none => ((s.setFronts { s.fronts with table := t }).latch .frontTableFull, none)
    | some (t, evicted) =>
      ((s.setFronts
          { s.fronts with
            table := insertFront (s.newOwnFront magnitude) t
            serial := (s.fronts.serial + 1) % 16 }).latchIf evicted .frontTableFull,
        some (s.own, s.fronts.serial))

/-- The fast track becomes ACTIVE and its timer is started from 0 (R70). -/
def State.startFastTrack (s : State) : State :=
  (s.setFronts { s.fronts with fastActive := true, fastTimer := some s.clock }).formFastValues

/-- An own sighting: the record, the fast track, and a notice when a record holds it (R64). The notice
is refused outside ACTIVE (R83, R155). -/
def State.ownFront (s : State) (magnitude : Nat) : State :=
  let p := s.placeSighting magnitude
  let s := p.1.startFastTrack
  match p.2 with
  | some (o, n) => s.offerNotice o n
  | none => s

/-! ## The detector (R62, R63) -/

/-- The threshold, with the slow reading it rests on (R62). It rests on the window record alone, also between
a RESTART or a return from ISLAND and the first levelling tick, where that record is the one kept from before
(R16, R17); R62 has the detector not fire before that tick, and that it can is the model's choice (DESIGN
CHOICE, log 44). -/
def State.threshold (s : State) : Option (Nat × Nat) :=
  match s.sampler.window.valid, s.sampler.window.mean with
  | true, some m => if 400 ≤ m then some (m, m * (100 - s.img.theta) / 100) else none
  | _, _ => none

/-- The slow reading and fast mean of an arrival at or below the threshold. -/
def State.darkening (s : State) : Option (Nat × Nat) :=
  match s.threshold, s.sampler.fastMean with
  | some (slow, limit), some y => if y ≤ limit then some (slow, y) else none
  | _, _ => none

/-- The magnitude of a firing (R62). -/
def magnitudeOf (slow y : Nat) : Nat := max 1 ((slow - y) * 100 / slow)

/-- The evaluation at each sample arrival (R62, R63). -/
def State.evaluateDetector (s : State) : State :=
  match s.fronts.armed, s.darkening with
  | true, some (slow, y) =>
    (s.setFronts { s.fronts with armed := false, rearm := none }).ownFront (magnitudeOf slow y)
  | true, none => s
  | false, some _ => s.setFronts { s.fronts with rearm := none }
  | false, none => s.setFronts { s.fronts with rearm := s.fronts.rearm <|> some s.clock }

/-- The summary body of a notice entry at its attempt (R83). -/
def FrontRecord.toNotice (now : Time) (f : FrontRecord) : Notice :=
  { origin := f.origin, serial := f.serial, direction := f.direction, magnitude := f.magnitude
    pace := f.pace
    sightings := f.sightings.map fun x => { pos := x.pos, age := min 65535 ((since now x.time).toNat / 10) } }

end Sys2Proof.Machine
end

