-- ==== Sys2Proof/Machine/Sampling.lean ====
section
/-! DEFINITION. The commands of the daylight sampler: CONVERSION_START, SAMPLE_ARRIVAL, PRESENCE_POLL
(01_daylight_sampling.md), with the front detector's evaluation at each arrival (R62). -/

namespace Sys2Proof.Machine

/-- What exec answers: the block has no stop of its own (log 29). -/
abbrev Answered := Host.Outcome State Fault Refusal

/-- The first quality whose condition holds (R4). -/
def Sampler.quality (p : Sampler) : ConvResult → Quality
  | .underflow => if p.present then .fault else .absent
  | .fullScale => if !p.present then .absent else if 0 < p.settle then .settling else .saturated
  | .code _ => if !p.present then .absent else if 0 < p.settle then .settling else .good

/-- The code of a result: 4,095 at full scale (R3). -/
def resultCode : ConvResult → Nat
  | .code c => c.toNat
  | .fullScale => 4095
  | .underflow => 0

/-- The factor of a range (R3). -/
def Range.scale : Range → Nat
  | .low => 1
  | .high => 8

/-- The sample of a conversion in range `g` (R3, R4); ABSENT and FAULT samples have value and code 0. -/
def Sampler.sampleOf (p : Sampler) (g : Range) (result : ConvResult) : Sample :=
  let q := p.quality result
  let code := if q = .absent ∨ q = .fault then 0 else resultCode result
  { value := code * g.scale, code := code, range := g, quality := q }

/-- A usable sample: GOOD or SATURATED. -/
def Sample.usable (x : Sample) : Bool := x.quality == .good || x.quality == .saturated

/-- The sum of the values of a run of samples. -/
def sumValues (xs : List Sample) : Nat := xs.foldl (fun n x => n + x.value) 0

/-- The runs, the settle count and the range after a sample (R5, R6, R7). -/
def Sampler.ranging (p : Sampler) (x : Sample) : Sampler :=
  let settle := if p.present then p.settle - 1 else p.settle
  let sat := if x.quality = .saturated ∧ x.range = .low then p.saturatedRun + 1 else 0
  let low := if x.quality = .good ∧ x.range = .high ∧ x.value < 400 then p.lowRun + 1 else 0
  if 2 ≤ sat then { p with range := .high, settle := 1, saturatedRun := 0, lowRun := 0 }
  else if 8 ≤ low then { p with range := .low, settle := 1, saturatedRun := 0, lowRun := 0 }
  else { p with settle := settle, saturatedRun := sat, lowRun := low }

/-- The fault run after a sample, saturating at 4 (R10). -/
def Sampler.countFault (p : Sampler) (x : Sample) : Sampler :=
  { p with faultRun := if x.quality = .fault then min 4 (p.faultRun + 1) else 0 }

/-- The sample placed in the ring (R11). -/
def Sampler.store (p : Sampler) (x : Sample) : Sampler :=
  { p with ring := (x :: p.ring).take 64, taken := min 64 (p.taken + 1) }

/-- The fast mean recomputed from the newest four (R12). -/
def Sampler.refreshFast (p : Sampler) : Sampler :=
  let four := p.ring.take 4
  { p with fastMean := if 4 ≤ p.taken ∧ four.all Sample.usable then some (sumValues four / 4) else none }

/-- The whole work of an arrival in the sampler (R2). -/
def Sampler.arrive (p : Sampler) (g : Range) (result : ConvResult) : Sampler :=
  let x := p.sampleOf g result
  { ((((p.ranging x).countFault x).store x).refreshFast) with converting := none }

/-- The window record of the newest `w` samples (R13, R14, R15). -/
def Sampler.formWindow (p : Sampler) (w : Nat) : WindowRecord :=
  let xs := p.ring.take w
  let good := xs.filter Sample.usable
  let worse (q : Option Quality) (x : Sample) : Option Quality :=
    if worstCode q < x.quality.code then some x.quality else q
  { size := xs.length
    usable := good.length
    mean := if good.length = 0 then none else some (sumValues good / good.length)
    valid := decide (w / 2 ≤ good.length ∧ w / 2 ≤ p.taken)
    worst := xs.foldl worse none }

/-- CONVERSION_START: a conversion starts each 50 ms in the range then in force (R2). -/
def execConversionStart (s : State) : Answered :=
  .next <| s.live fun s =>
    s.onExpiry s.sampler.conversion (ms 50) fun at_ s =>
      s.setSampler { s.sampler with
        conversion := some at_, converting := some s.sampler.range, pollDue := true }

/-- SAMPLE_ARRIVAL: the conversion in progress ends 12 ms after its start. The sample is formed and
stored, SENSOR_FAULT latched where due, the detector evaluated on the new fast mean, the fast-track
values followed and the FRONT claim revalued (R2 to R12, R62 to R70, R81). -/
def execSampleArrival (result : ConvResult) (s : State) : Answered :=
  .next <| s.live fun s =>
    match s.sampler.converting with
    | none => s
    | some g =>
      s.onExpiry s.sampler.conversion (ms 12) fun _ s =>
        let x := s.sampler.sampleOf g result
        let s := s.setSampler (s.sampler.arrive g result)
        let s := s.latchIf (x.quality == .fault && s.sampler.faultRun == 4) .sensorFault
        let s := s.evaluateDetector
        let s := if s.fronts.fastActive then s.formFastValues else s
        s.updateFrontClaim

/-- PRESENCE_POLL: SPRES is read 25 ms after each conversion start (R8, R9). -/
def execPresencePoll (spresHigh : Bool) (s : State) : Answered :=
  .next <| s.live fun s =>
    if s.sampler.pollDue then
      s.onExpiry s.sampler.conversion (ms 25) fun _ s =>
        let s := s.setPins { s.pins with spresHigh := spresHigh }
        let p := { s.sampler with pollDue := false }
        if spresHigh then
          if p.present then s.setSampler p
          else s.setSampler { p with present := true, settle := 2 }
        else (s.setSampler { p with present := false }).latch .sensorAbsent
    else s

end Sys2Proof.Machine
end

