-- ==== Sys2Proof/Machine/FrontEvents.lean ====
section
/-! DEFINITION. The timed events of the front tracker: re-arming, the end of the fast track, and the
changes of a record's state with time (04_daylight_fronts.md, R63, R70, R77 to R79). -/

namespace Sys2Proof.Machine

/-- REARM_TIMER_EXPIRY: 2,000 ms of quiet arrivals, and the detector is ARMED (R63). -/
def execRearmTimerExpiry (s : State) : Answered :=
  .next <| s.live fun s =>
    s.onExpiry s.fronts.rearm (ms 2000) fun _ s =>
      s.setFronts { s.fronts with armed := true, rearm := none }

/-- FAST_TRACK_EXPIRY: the front hold time has passed since the last own sighting (R70, R81). That the
fast-track value keeps its last figure while the fast track is INACTIVE is the model's choice (log 34). -/
def execFastTrackExpiry (s : State) : Answered :=
  .next <| s.live fun s =>
    s.onExpiry s.fronts.fastTimer (sec s.img.frontHold) fun _ s =>
      (s.setFronts { s.fronts with fastActive := false, fastTimer := none }).updateFrontClaim

/-- The record of an identity. -/
def State.front (s : State) (id : FrontId) : Option FrontRecord :=
  findFront s.fronts.table id.origin.toNat id.serial.toNat

/-- The record of `f`'s identity replaced, and the FRONT claim revalued (R81). -/
def State.putFront (s : State) (f : FrontRecord) : State :=
  (s.setFronts { s.fronts with table := replaceFront s.fronts.table f }).updateFrontClaim

/-- PRE_RAISE_START: now reaches an APPROACHING record's arrival less the lead (R77, R80). -/
def execPreRaiseStart (id : FrontId) (s : State) : Answered :=
  .next <| s.live fun s =>
    match s.front id with
    | none => s
    | some f =>
      match f.state, f.arrival with
      | .approaching, some a =>
        let s := s.advanceToTime (a - BitVec.ofNat 32 s.img.leadMs)
        s.putFront (s.formPreRaise { f with state := .preRaise })
      | _, _ => s

/-- FRONT_MISSED: now reaches a PRE_RAISE record's arrival plus 3,000 ms (R78). That its pre-raise values keep
their last figures is the model's choice (log 34). -/
def execFrontMissed (id : FrontId) (s : State) : Answered :=
  .next <| s.live fun s =>
    match s.front id with
    | none => s
    | some f =>
      match f.state, f.arrival with
      | .preRaise, some a =>
        let s := s.advanceToTime (later a 3000)
        s.putFront { f with state := .missed, missedTime := some s.now }
      | _, _ => s

/-- When a record is removed by age, if it is (R79). -/
def State.removalTime (s : State) (f : FrontRecord) : Option Time :=
  match f.state with
  | .passed => f.ownTime.map fun t => later t (s.img.frontHold * 1000)
  | .missed => f.missedTime.map fun t => later t 30000
  | .watching => some (later f.lastUpdate 30000)
  | _ => none

/-- FRONT_RECORD_REMOVAL: a PASSED, MISSED or WATCHING record has stood its time (R79). -/
def execFrontRecordRemoval (id : FrontId) (s : State) : Answered :=
  .next <| s.live fun s =>
    match s.front id with
    | none => s
    | some f =>
      match s.removalTime f with
      | none => s
      | some t =>
        let s := s.advanceToTime t
        s.setFronts { s.fronts with table := removeFront s.fronts.table f.origin f.serial }

end Sys2Proof.Machine
end

