-- ==== Sys2Proof/Machine/Compose.lean ====
section
/-! DEFINITION. The data of service results and the snapshot image (08_frames.md, R149 to R154;
READ FRONTS of R84). -/

namespace Sys2Proof.Machine

/-- A running timer's remainder in whole seconds (R150). -/
def State.remainingSec (s : State) (limit : Nat) (t : Timer) : Option Nat :=
  (s.remaining limit t).map (· / sec 1)

/-- The remaining vacancy time in seconds (R113). -/
def State.vacancyLeft (s : State) : Option Nat := s.remainingSec (minutes s.img.vacancyMin) s.occ.vacancy

/-- The remaining override time in seconds (R123). -/
def State.overrideLeft (s : State) : Option Nat :=
  s.remainingSec (minutes (60 * s.img.overrideHours)) s.switch.override

/-- The force timer's length: 10 min (R178). -/
def forceLimit : Nat := minutes 10

/-- The remaining force time in seconds (R178). -/
def State.forceLeft (s : State) : Option Nat := s.remainingSec forceLimit s.service.force

/-- A claim's value where it is asserted. -/
def valueOf (c : Option Claim) : Option Nat := c.map Claim.value

/-- The value a claim carries for the station: that of the first rank holding it (R150; log 17). -/
def State.stationValue (s : State) (f : Claims → Option Claim) : Option Nat :=
  valueOf (f s.ranks.a.claims) <|> valueOf (f s.ranks.b.claims) <|> valueOf (f s.ranks.c.claims)

/-- Mode, hold state and hold cause in one byte (R150, R153). Neither rule names its bit 7; that it holds 0
is the model's choice (DESIGN CHOICE, log 43). -/
def State.modeByte (s : State) : Byte :=
  byte (s.mode.code + 8 * s.service.hold.code + 32 * holdCauseCode s.service.cause)

/-- One rank's eight bytes in a QUERY STATE result (R150). -/
def State.queryRank (s : State) (r : Rank) : List Byte :=
  let u := s.ranks.get r
  pairField (figure (s.levelling.goal.get r)) u.ramp.output
    ++ pairField (figure (valueOf u.claims.force)) (figure (valueOf u.claims.front))
    ++ [byte (claimSet u.claims + 64 * flag u.ramp.faulted + 128 * flag (s.present r)),
        byte (claimCode u.inService + 8 * maskSet (s.img.mask.get r) + 64 * u.ramp.state.code)]

/-- The 39 bytes of a QUERY STATE result (R150). -/
def State.queryData (s : State) : List Byte :=
  [s.modeByte,
   byte (s.levelling.readingState.code + 4 * worstCode s.sampler.window.worst
     + 32 * s.occ.state.code + 128 * flag s.overriding)]
    ++ twoBytes s.levelling.reading ++ twoBytes s.conditions.toNat
    ++ twoBytes (wideFigure s.vacancyLeft) ++ twoBytes (wideFigure s.overrideLeft)
    ++ twoBytes (wideFigure s.forceLeft)
    ++ pairField (figure (s.stationValue Claims.switch)) (figure (s.stationValue Claims.vacancy))
    ++ s.queryRank .a ++ s.queryRank .b ++ s.queryRank .c

/-- The data of a READ ENTRY result (R151, R35). R151 names bits 4 to 0 of the chain byte alone; that bits
7 to 5 hold 0 is the model's choice (DESIGN CHOICE, log 43). -/
def State.entryData (s : State) (p : Nat) : List Byte :=
  let e := s.rows.entry p
  [byte p, byte e.status.code, byte (e.lastSeq + 16 * flag e.baseValid)] ++ fullBody e.record

/-- A signed two-byte field in two's complement (R140). -/
def signedBytes (i : Int) : List Byte := twoBytes (BitVec.ofInt 16 i).toNat

/-- The time to arrival as a summary shows it: tenths truncated toward zero and held at ±32,767, or
0x8000 for none (R84, R151). -/
def arrivalBytes (now : Time) (f : FrontRecord) : List Byte :=
  let shown : Bool := f.state == .approaching || f.state == .preRaise || f.state == .missed
  match f.arrival with
  | some a => if shown then signedBytes (max (-32767) (min 32767 ((since a now).tdiv 10))) else twoBytes 0x8000
  | none => twoBytes 0x8000

/-- A front summary (R151). -/
def frontSummary (now : Time) (f : FrontRecord) : List Byte :=
  [byte (f.origin + 64 * f.direction.code), byte (f.serial + 16 * f.state.code), byte f.magnitude]
    ++ twoBytes (f.pace.getD 0 + 16384 * (f.sightings.length - 1)) ++ arrivalBytes now f

/-- The summary of a slot that holds no record (R151). -/
def emptySummary : List Byte := [0, byte (7 * 16), 0, 0, 0, 0, 0]

/-- The bytes of the summaries of a run of records. -/
def summaries (now : Time) : List FrontRecord → List Byte
  | [] => []
  | f :: fs => frontSummary now f ++ summaries now fs

/-- The data of a READ FRONTS result (R84, R151). -/
def State.frontsData (s : State) : List Byte :=
  byte s.fronts.table.length :: summaries s.now s.fronts.table

/-! ## The snapshot image -/

/-- A sample as one word of the ring (R153). -/
def sampleWord (x : Sample) : Nat :=
  x.code + 4096 * flag (x.range == .high) + 8192 * x.quality.code

/-- `n` ring words, a slot that holds no sample being 0 (R153). -/
def ringBytes : Nat → List Sample → List Byte
  | 0, _ => []
  | n + 1, [] => 0 :: 0 :: ringBytes n []
  | n + 1, x :: xs => twoBytes (sampleWord x) ++ ringBytes n xs

/-- Four statuses in a byte, lowest position in the low bits (R153). -/
def statusBytes (t : RowTable) : Nat → List Byte
  | 0 => []
  | n + 1 =>
    let q := 4 * (15 - n)
    let code (p : Nat) : Nat := if p ≤ 62 then (t.entry p).status.code else 0
    byte (code q + 4 * code (q + 1) + 16 * code (q + 2) + 64 * code (q + 3)) :: statusBytes t n

/-- `n` places of the want-full list, 0xFF in each unused one (R153). -/
def wantPlaces : Nat → List Nat → List Byte
  | 0, _ => []
  | n + 1, [] => 0xFF#8 :: wantPlaces n []
  | n + 1, p :: ps => byte p :: wantPlaces n ps

/-- A rank's lift floor as the image shows it: 0 when the rank is absent (R153). -/
def State.shownFloor (s : State) (r : Rank) : Nat := if s.present r then s.levelling.liftFloor.get r else 0

/-- Image bytes 0 to 178 (R153). No field names bit 7 of bytes 0, 1 and 133, bits 7 and 6 of byte 134, bits
6 to 3 of byte 137 and bits 7 to 2 of byte 164; that they hold 0 is the model's choice (DESIGN CHOICE,
log 43). Bits 7 and 6 of byte 157 and bits 15 to 12 of the word at 177 are 0 by the rule. -/
def State.imageFirst (s : State) : List Byte :=
  [s.modeByte,
   byte (s.line.state.code + 4 * s.rx.state.code + 16 * s.tx.contention.code)]
    ++ twoBytes s.conditions.toNat
    ++ ringBytes 64 s.sampler.ring
    ++ [byte s.sampler.taken,
        byte (flag (s.sampler.range == .high) + 2 * flag s.sampler.present + 4 * s.sampler.settle
          + 16 * s.sampler.faultRun),
        byte (s.sampler.saturatedRun + 4 * s.sampler.lowRun),
        byte s.sampler.window.size, byte s.sampler.window.usable,
        byte (worstCode s.sampler.window.worst + 128 * flag s.sampler.window.valid)]
    ++ twoBytes (wideFigure s.sampler.window.mean) ++ twoBytes (wideFigure s.sampler.fastMean)
    ++ statusBytes s.rows 16 ++ wantPlaces 4 s.rows.want
    ++ twoBytes s.levelling.reading ++ [byte s.levelling.readingState.code]
    ++ pairField (figure s.levelling.goal.a) (s.shownFloor .a)
    ++ pairField (figure s.levelling.goal.b) (s.shownFloor .b)
    ++ pairField (figure s.levelling.goal.c) (s.shownFloor .c)
    ++ pairField (figure s.levelling.published.a) (figure s.levelling.published.b)
    ++ twoBytes (figure s.levelling.published.c)

/-- A rank's fast-track value as the image shows it (R154). -/
def State.shownFast (s : State) (r : Rank) : Nat :=
  if s.fronts.fastActive ∧ s.present r then s.fronts.fastValue.get r else 0xFFF

/-- The four front summaries of the image, empty slots last (R154). -/
def frontSlots (now : Time) : Nat → List FrontRecord → List Byte
  | 0, _ => []
  | n + 1, [] => emptySummary ++ frontSlots now n []
  | n + 1, f :: fs => frontSummary now f ++ frontSlots now n fs

/-- One rank's ten bytes of the image; an absent rank's are all 0 (R154). -/
def State.imageRank (s : State) (r : Rank) : List Byte :=
  let u := s.ranks.get r
  if s.present r then
    pairField (figure (valueOf u.claims.force)) (figure (valueOf u.claims.front))
      ++ pairField u.ramp.target u.ramp.output
      ++ twoBytes (u.ramp.acc + 2048 * u.ramp.assertedRun + 8192 * u.ramp.clearRun
          + 32768 * flag u.ramp.faulted)
      ++ [byte (claimSet u.claims + 64 * u.ramp.state.code),
          byte (claimCode u.inService + 8 * maskSet (s.img.mask.get r) + 64)]
  else List.replicate 10 0

/-- Image bytes 179 to 254 (R154). No field names bit 7 of byte 179 and bits 7 and 6 of bytes 182 and 188;
that they hold 0 is the model's choice (DESIGN CHOICE, log 43). Bits 15 to 12 of the word at 195 and bit 7
of a rank's tenth byte are 0 by the rule. -/
def State.imageSecond (s : State) : List Byte :=
  [byte (s.occ.state.code + 4 * s.occ.edges.length)]
    ++ twoBytes (wideFigure s.vacancyLeft)
    ++ [byte (flag s.switch.pressed + 2 * s.switch.press.code + 8 * flag s.overriding
          + 16 * travelCode s.switch.travel)]
    ++ pairField (figure s.switch.level) (figure (s.stationValue Claims.vacancy))
    ++ twoBytes (wideFigure s.overrideLeft)
    ++ [byte (flag s.fronts.armed + 2 * flag s.fronts.fastActive + 4 * s.fronts.serial)]
    ++ pairField (figure (s.fronts.rearm.map fun t => s.elapsed t / ms 10))
        (figure ((s.remaining (sec s.img.frontHold) s.fronts.fastTimer).map (· / ms 10)))
    ++ pairField (s.shownFast .a) (s.shownFast .b) ++ twoBytes (s.shownFast .c)
    ++ frontSlots s.now 4 s.fronts.table
    ++ s.imageRank .a ++ s.imageRank .b ++ s.imageRank .c

/-- The low eight bits of the sum of the bytes (R154). -/
def checkByte (bs : List Byte) : Byte := bs.foldl (· + ·) 0

/-- The 256-byte snapshot image of this instant (R153, R154, R179). The check byte is summed over the bytes
as they stand, so the 0 in bits that no field names enters it (log 43). -/
def State.snapshotImage (s : State) : List Byte :=
  let body := s.imageFirst ++ s.imageSecond
  body ++ [checkByte body]

/-- Segment `i` of an image: its index and its 32 bytes (R152). -/
def segment (image : List Byte) (i : Nat) : List Byte := byte i :: (image.drop (32 * i)).take 32

end Sys2Proof.Machine
end

