-- ==== Sys2Proof/Machine/ConfigImage.lean ====
section
/-! DEFINITION. The check of the 64 bytes read from the configuration memory (R188). -/

namespace Sys2Proof.Machine

/-- Byte `i` of the image as a number. -/
def imageByte (bs : List Byte) (i : Nat) : Nat := (bs.getD i 0).toNat

/-- The two-byte field at byte `i`. -/
def imageWord (bs : List Byte) (i : Nat) : Nat := imageByte bs i * 256 + imageByte bs (i + 1)

/-- `lo ≤ n ≤ hi`. -/
def within (lo n hi : Nat) : Bool := lo ≤ n && n ≤ hi

/-- The seven bytes of a rank's parameters, from byte `i`. -/
def imageRank (bs : List Byte) (i : Nat) : RankParams :=
  { factor := imageWord bs i, full := imageWord bs (i + 2), minimum := imageWord bs (i + 4)
    cutOff := imageByte bs (i + 6) == 1 }

/-- The ranges of a rank's parameters; the cut-off byte is at `i + 6`. -/
def imageRankOk (bs : List Byte) (i : Nat) : Bool :=
  within 0 (imageWord bs i) 1000 && within 1 (imageWord bs (i + 2)) 32767
    && within 0 (imageWord bs (i + 4)) 1000 && within 0 (imageByte bs (i + 6)) 1

/-- A mask-set byte of the image (R143). -/
def imageMask (bs : List Byte) (i : Nat) : Mask :=
  { switch := (bs.getD i 0).getLsbD 0, vacancy := (bs.getD i 0).getLsbD 1, front := (bs.getD i 0).getLsbD 2 }

/-- The fields of the image in the order of R188's table. -/
def imageFields (bs : List Byte) : Image :=
  { target := imageWord bs 3
    rank := ⟨imageRank bs 5, imageRank bs 12, imageRank bs 19⟩
    present := ⟨(bs.getD 26 0).getLsbD 0, (bs.getD 26 0).getLsbD 1, (bs.getD 26 0).getLsbD 2⟩
    stepLimit := imageWord bs 27
    deadBand := imageByte bs 29
    upRate := imageWord bs 30
    downRate := imageWord bs 32
    fadeRate := imageWord bs 34
    fallback := imageWord bs 36
    vacant := imageWord bs 38
    courtesy := imageWord bs 40
    period := imageByte bs 42
    window := imageByte bs 43
    reach := imageByte bs 44
    theta := imageByte bs 45
    leadMs := imageWord bs 46
    frontHold := imageByte bs 48
    occUsed := imageByte bs 49 == 1
    edgeFalling := imageByte bs 50 == 1
    edges := imageByte bs 51
    vacancyMin := imageByte bs 52
    activeHigh := imageByte bs 53 == 1
    overrideHours := imageByte bs 54
    mask := ⟨imageMask bs 55, imageMask bs 56, imageMask bs 57⟩ }

/-- Every field within its range, and the fill bytes 0. -/
def imageRangesOk (bs : List Byte) : Bool :=
  within 0 (imageWord bs 3) 32767
    && imageRankOk bs 5 && imageRankOk bs 12 && imageRankOk bs 19
    && within 0 (imageByte bs 26) 7
    && within 10 (imageWord bs 27) 500 && within 0 (imageByte bs 29) 100
    && within 1 (imageWord bs 30) 1000 && within 1 (imageWord bs 32) 1000 && within 1 (imageWord bs 34) 1000
    && within 0 (imageWord bs 36) 1000 && within 0 (imageWord bs 38) 1000 && within 0 (imageWord bs 40) 1000
    && within 1 (imageByte bs 42) 10 && [8, 16, 32, 64].contains (imageByte bs 43)
    && within 1 (imageByte bs 44) 3 && within 20 (imageByte bs 45) 60
    && within 0 (imageWord bs 46) 5000 && within 2 (imageByte bs 48) 30
    && within 0 (imageByte bs 49) 1 && within 0 (imageByte bs 50) 1 && within 1 (imageByte bs 51) 15
    && within 1 (imageByte bs 52) 60 && within 0 (imageByte bs 53) 1 && within 1 (imageByte bs 54) 8
    && within 0 (imageByte bs 55) 7 && within 0 (imageByte bs 56) 7 && within 0 (imageByte bs 57) 7
    && imageByte bs 58 == 0 && imageByte bs 59 == 0 && imageByte bs 60 == 0 && imageByte bs 61 == 0

/-- The mark 0x5A3C, the version 1 and the CRC of bytes 0 to 61 in bytes 62 and 63. -/
def imageMarksOk (bs : List Byte) : Bool :=
  bs.length == 64 && imageWord bs 0 == 0x5A3C && imageByte bs 2 == 1
    && imageWord bs 62 == (crcOf (bs.take 62)).toNat

/-- The image in the 64 bytes read, when it passes every check. -/
def readImage (bs : List Byte) : Option Image :=
  if imageMarksOk bs && imageRangesOk bs then some (imageFields bs) else none

end Sys2Proof.Machine
end

