-- ==== Sys2Proof/Machine/Modes.lean ====
section
/-! DEFINITION. What several commands may bring about: the release of reset, the end of CONFIG, the
beginning of a RESTART, the fate of a service result, and the changes of station mode
(11_start_up_and_station_modes.md; R137, R167, R172, R182). -/

namespace Sys2Proof.Machine

/-! ## Start and end of CONFIG -/

/-- The strap read: the value becomes the own position, and 63 latches BAD_POSITION (R186). -/
def State.readStraps (s : State) : State :=
  (s.setStartUp { s.startUp with position := s.pins.straps.toNat }).latchIf
    (s.pins.straps == 63#6) .badPosition

/-- The release of power-up or RESET_N: every block from its power-up values, the straps read, the
free-running timers started, and the configuration read begun with its first attempt (R184, R187).
The queue and the pin levels stay (log 8). -/
def State.released (s : State) (first : AttemptOutcome) : State :=
  let r := State.inReset s.pending s.pins s.line.pulled
  State.readStraps
    { r with
      running := true
      startUp := { r.startUp with read := readPhaseAfter first, poll := some 0 }
      sampler := { r.sampler with conversion := some 0, converting := some r.sampler.range, pollDue := true }
      rampClock := some 0
      occ := { r.occ with vacancy := some 0 }
      line := { r.line with
        recessiveTime := if s.line.pulled then none else some 0
        dominantTime := if s.line.pulled then some 0 else none } }

/-- The mode a start or a restart ends in: MUTE at position 63, ISLAND on a STUCK line, otherwise
LISTEN with its timer from 0 (R189, R192). -/
def State.enterByTests (s : State) : State :=
  if s.own = 63 then s.setStartUp { s.startUp with mode := .mute, listen := none }
  else if s.line.state = .stuck then s.setStartUp { s.startUp with mode := .island, listen := none }
  else s.setStartUp { s.startUp with mode := .listen, listen := some s.clock }

/-- WSW shows the level that means pressed (R114). -/
def State.wswPressed (s : State) : Bool := s.pins.wswHigh == s.img.activeHigh

/-- An absent rank's generator keeps its reset values (R102; log 15). -/
def State.clearAbsentRanks (s : State) : State :=
  s.setRanks (PerRank.of fun r => if s.present r then s.ranks.get r else rankPowerUp)

/-- The end of CONFIG with the image and cause chosen (R188, R189): FALLBACK asserted and in service on
each present rank (R55, R104), the tick timer started (R40), the vacancy timer stopped when occupancy
is not used (R107), the debounced level taken (R114), and the mode set by the tests. -/
def State.endConfig (s : State) (i : Image) (c : Cause) : State :=
  let s := s.setStartUp
    { s.startUp with image := some i, cause := some c, read := .idle, poll := none }
  let s := s.latchIf (c != .image) .configDefaulted
  let s := s.clearAbsentRanks
  let s := s.changeClaims fun _ => fallbackClaims i
  let s := s.setLevelling { levellingPowerUp with tick := some s.clock }
  let s := s.publishGoals
  let s := if i.occUsed then s else s.setOcc { s.occ with vacancy := none }
  let s := s.setSwitch { s.switch with pressed := s.wswPressed }
  s.enterByTests

/-- The read ended without an image: the defaults, with cause NO_MEMORY (R187, R188). -/
def State.endWithoutImage (s : State) : State := s.endConfig defaultImage .noMemory

/-! ## Override cancellation (R121) -/

/-- The switch unit after a cancellation: INACTIVE, no level, no direction, timers stopped; a press in
LONG becomes SPENT, and one in TIMING too when a RESTART cancels (log 21). -/
def SwitchUnit.cancelled (w : SwitchUnit) (byRestart : Bool) : SwitchUnit :=
  { w with
    level := none, travel := none, override := none, levelStep := none
    press := if w.press = .long then .spent
             else if byRestart ∧ w.press = .timing then .spent else w.press
    pressTimer := if byRestart then none else w.pressTimer }

/-- The override cancelled: SWITCH is withdrawn on every present rank (R121). -/
def State.cancelOverride (s : State) : State :=
  if s.overriding then
    (s.setSwitch (s.switch.cancelled false)).changeClaims fun _ c => { c with switch := none }
  else s

/-! ## The beginning of a RESTART (R182, R192) -/

/-- The claims a restart leaves: VACANCY as it stands, FALLBACK asserted, the others withdrawn (R105). -/
def restartClaims (i : Image) (c : Claims) : Claims :=
  { fallbackClaims i c with force := none, switch := none, front := none }

/-- Each present arbiter's one re-choice at a restart, the hold being over (R92, R105). -/
def State.restartRanks (s : State) : State :=
  s.onPresent fun r u =>
    RankUnit.reChoose (s.img.mask.get r)
      { u with claims := restartClaims s.img u.claims, ramp := u.ramp.thaw }

/-- The beginning of a RESTART: each block takes its RESTART values, the straps are read again, and the
mode is set by the tests of R189 (R182, R192; R18, R38, R61, R85, R105, R113, R122, R138, R168, R183).
The sampler keeps its window record (R17, R18); that the detector, armed here (R85), can then fire before
the first levelling tick, against a sentence of R62, is the model's choice (DESIGN CHOICE, log 44). -/
def State.restartBegin (s : State) : State :=
  let s := s.stopDriving.setTx txPowerUp
  let s := s.setRows rowTablePowerUp
  let s := s.setFronts frontsPowerUp
  let s := s.setSwitch (s.switch.cancelled true)
  let s := s.setService { servicePowerUp with overrun := s.service.overrun }
  let s := s.restartRanks
  let s := s.setLevelling { levellingPowerUp with tick := some s.clock }
  let s := s.publishGoals
  let s := s.latchIf (s.startUp.cause == some .noMemory || s.startUp.cause == some .badImage)
    .configDefaulted
  s.readStraps.enterByTests

/-! ## Results (R172) -/

/-- The kind code of RESTART (R148). -/
def restartKind : Byte := 13#8

/-- The kind code of STEP (R148). -/
def stepKind : Byte := 4#8

/-- The pending request is a RESTART answered DONE, whose restart waits for its result (R182). A RESTART
answered BAD_PARAMETER begins none (R169; log 35). -/
def Service.restartWaits (v : Service) : Bool := (v.pending.map Pending.restarts) == some true

/-- The result has left the line or was dropped: the phase returns to IDLE, and a RESTART's restart
begins (R172, R182). -/
def State.resultGone (s : State) : State :=
  if s.service.phase = .resultPending then
    let restarts := s.service.restartWaits
    let s := s.setService { s.service with phase := .idle, pending := none }
    if restarts then s.restartBegin else s
  else s

/-- The outcomes of a result (R149). -/
inductive Outcome where
  | done | refusedState | badParameter | unknownRequest
  deriving DecidableEq, Repr

/-- The outcome's code (R149). -/
def Outcome.code : Outcome → Nat
  | .done => 0
  | .refusedState => 1
  | .badParameter => 2
  | .unknownRequest => 3

/-- What a request answers: outcome, data and the END flag. -/
structure Answer where
  outcome : Outcome
  data : List Byte
  fin : Bool
  deriving DecidableEq, Repr

/-- DONE with data. -/
def answerData (d : List Byte) : Answer := { outcome := .done, data := d, fin := false }

/-- DONE without data. -/
def answerDone : Answer := answerData []

/-- An outcome other than DONE, which carries no data (R149). -/
def answerNot (o : Outcome) : Answer := { outcome := o, data := [], fin := false }

/-- A SERVICE RESULT body (R149). -/
def resultBody (p : Pending) (overrun : Bool) (a : Answer) : List Byte :=
  [p.tag, p.kind, byte a.outcome.code, byte (flag overrun + 2 * flag a.fin)] ++ a.data

/-- A result composed and offered: OVERRUN is carried and cleared, the phase becomes RESULT_PENDING,
and a queue that refuses the entry drops the result at once (R160, R171, R172). -/
def State.offerResult (s : State) (p : Pending) (a : Answer) : State :=
  let body := resultBody p s.service.overrun a
  let s := s.setService { s.service with phase := .resultPending, overrun := false }
  if s.queueOpen then s.join (.result body) else s.resultGone

/-- The result of a unicast STEP, composed when the step ends (R172, R175). -/
def State.offerStepResult (s : State) : State :=
  match s.service.pending with
  | some p => s.offerResult p answerDone
  | none => s

/-! ## Changes of mode -/

/-- The queue emptied at a change of mode or at a parting report: a result discarded with it is
reported to the service engine (R167, R172). -/
def State.discardQueue (s : State) : State :=
  let had := s.tx.queue.any QueueEntry.isResult
  let s := s.emptyQueue
  if had then s.resultGone else s

/-- A change of mode out of ACTIVE, to ISLAND or MUTE: the report timer stops and the queue is emptied
(R167). The mode is set first, so a restart that begins here sets its own (R191). -/
def State.leaveActive (s : State) (m : Mode) : State :=
  ((s.setStartUp { s.startUp with mode := m }).setTx { s.tx with report := none }).discardQueue

/-- LISTEN ends early: the LISTEN timer stops (R190). -/
def State.leaveListen (s : State) (m : Mode) : State :=
  s.setStartUp { s.startUp with mode := m, listen := none }

/-- The line has become STUCK (R127, R190, R191). -/
def State.onStuck (s : State) : State :=
  match s.mode with
  | .active => s.leaveActive (if s.tx.parting then .mute else .island)
  | .listen => s.leaveListen .island
  | _ => s

/-- A parting report begins (R137, R167): the queue is emptied; unless that began a unicast RESTART's
restart, a FULL marker is placed with the parting mark set, and a DEFER goes on. -/
def State.partingStart (s : State) : State :=
  let inDefer := s.tx.contention == .defer
  let restarts := s.tx.queue.any QueueEntry.isResult && s.service.restartWaits
  let s := s.discardQueue
  if restarts then s
  else
    let s := s.join .full
    s.setTx { s.tx with parting := true, contention := if inDefer then .defer else s.tx.contention }

/-- A duplicate position found at an accepted frame (R136). -/
def State.duplicateFound (s : State) : State :=
  let s := s.latch .duplicatePosition
  match s.mode with
  | .listen => s.leaveListen .mute
  | .active => if s.tx.parting then s else s.partingStart
  | _ => s

/-- The entry to ACTIVE: the report timer starts and a FULL falls due (R157, R167, R190). -/
def State.enterActive (s : State) : State :=
  let s := s.setStartUp { s.startUp with mode := .active, listen := none }
  (s.setTx { s.tx with report := some s.clock }).fullDue

end Sys2Proof.Machine
end

