-- ==== Sys2Proof/Machine/LevellingTick.lean ====
section
/-! DEFINITION. LEVELLING_TICK: one event that takes the window record, the reading, the goals and base
claims, the published values, the front tracker's values, the courtesy level, the step's re-choice and
the delta comparison, in the order of R41 (03_row_levelling.md). -/

namespace Sys2Proof.Machine

/-- The goal and lift floor of a present rank at a tick with reading `x` (R46 to R50). -/
def State.tickGoal (s : State) (ns : List Published) (x : Nat) (r : Rank) : Option Nat × Nat :=
  let i := s.img
  let p := i.rank.get r
  let floor_ := liftFloorOf i.stepLimit r ns
  let cand := max (rawLevel i.target p x) floor_
  (some (bandedGoal i.deadBand p.minimum floor_ cand (s.levelling.goal.get r)), floor_)

/-- Goals, lift floors and LEVELLING claims of a tick with a reading (R46 to R53). -/
def State.levelFrom (s : State) (ns : List Published) (x : Nat) (st : ReadingState) : State :=
  let per (r : Rank) : Option Nat × Nat :=
    if s.present r then s.tickGoal ns x r else (s.levelling.goal.get r, s.levelling.liftFloor.get r)
  let s := s.setLevelling
    { s.levelling with
      reading := x, readingState := st
      goal := PerRank.of fun r => (per r).1
      liftFloor := PerRank.of fun r => (per r).2 }
  s.changeClaims fun r c => levellingClaims s.img ((s.levelling.goal.get r).getD 0) c

/-- FALLBACK claims of a tick without a reading; goals and floors are kept (R54, R57). -/
def State.levelBlind (s : State) : State :=
  (s.setLevelling { s.levelling with reading := 0, readingState := .unavailable }).changeClaims
    fun _ => fallbackClaims s.img

/-- The reading conditions (R45). -/
def State.latchReading (s : State) : ReadingState → State
  | .own => s
  | .borrowed => s.latch .readingBorrowed
  | .unavailable => s.latch .readingUnavailable

/-- The VACANCY value: the courtesy level with an occupied near neighbour, else the vacant level (R112). -/
def State.vacancyValue (s : State) : Nat :=
  if s.neighbours.any fun n => n.occupancy == .occupied then s.img.courtesy else s.img.vacant

/-- VACANCY asserted, or its value handed again, on each present rank (R111, R112). -/
def State.assertVacancy (s : State) : State :=
  s.changeClaims fun _ c =>
    { c with vacancy := some { value := s.vacancyValue, rule := bothWays s.img.fadeRate } }

/-- The front tracker's part of a tick: fast-track and pre-raise values follow the new reading, goals
and floors (R70, R80, R81). -/
def State.frontTick (s : State) : State :=
  let s := if s.fronts.fastActive then s.formFastValues else s
  (s.setFronts { s.fronts with table := s.fronts.table.map s.formPreRaise }).updateFrontClaim

/-- The end of a step's tick: tick done, and every present arbiter re-chooses (R174). -/
def State.stepTickDone (s : State) : State :=
  if s.service.hold = .stepping then
    (s.setService { s.service with step := { s.service.step with tickDone := true } }).endFreeze
  else s

/-- A step's result owed since a RELEASE before the step's tick is composed at this tick (R175). -/
def State.payOwed (s : State) : State :=
  if s.service.owed then (s.setService { s.service with owed := false }).offerStepResult else s

/-- A full levelling tick (R41). -/
def State.levellingTick (s : State) : State :=
  let s := s.setSampler { s.sampler with window := s.sampler.formWindow s.img.window }
  let ns := s.neighbours
  let c := chooseReading s.sampler.window ns
  let s := if c.2 = .unavailable then s.levelBlind else s.levelFrom ns c.1 c.2
  let s := s.latchReading c.2
  let s := s.publishGoals
  let s := s.frontTick
  let s := if s.occ.state = .vacant then s.assertVacancy else s
  let s := s.stepTickDone
  let s := s.payOwed
  s.deltaCheck

/-- An expiry of the tick timer is skipped while HELD and after the step's tick (R42). -/
def Service.skipsTick (v : Service) : Bool :=
  match v.hold with
  | .held => true
  | .stepping => v.step.tickDone
  | _ => false

/-- LEVELLING_TICK: the 200 ms tick timer expires (R40, R42). -/
def execLevellingTick (s : State) : Answered :=
  .next <| s.live fun s =>
    s.onExpiry s.levelling.tick (ms 200) fun at_ s =>
      let s := s.setLevelling { s.levelling with tick := some at_ }
      if s.service.skipsTick then s else s.levellingTick

end Sys2Proof.Machine
end

