-- ==== Sys2Proof/Machine/RampStep.lean ====
section
/-! DEFINITION. RAMP_STEP: the 20 ms ramp clock expires; fault-sense samples, the match test, the
motion of the outputs and the counting of a step (05_claims_ramps_and_outputs.md, R93 to R100; R174). -/

namespace Sys2Proof.Machine

/-- The ranks whose fault-sense line is sampled: the present ones, and all before the presence mask is
known (R99; log 15). -/
def State.sensed (s : State) (r : Rank) : Bool := s.startUp.image.isNone || s.present r

/-- The OUTPUT_FAULT latch of one rank's sample (R100). -/
def State.latchFault (s : State) (flt : PerRank Bool) (r : Rank) : State :=
  s.latchIf (s.sensed r && (s.ranks.get r).ramp.senseLatches (flt.get r)) (outputFault r)

/-- The fault-sense samples of a ramp step, judged on the outputs before it (R99, R100). -/
def State.senseFaults (s : State) (flt : PerRank Bool) : State :=
  let s := s.setPins { s.pins with flt := flt }
  let s := ((s.latchFault flt .a).latchFault flt .b).latchFault flt .c
  s.setRanks (PerRank.of fun r =>
    let u := s.ranks.get r
    if s.sensed r then { u with ramp := u.ramp.sense (flt.get r) } else u)

/-- The generators of the ranks chosen take their step (R94). -/
def State.moveRamps (s : State) (chosen : Rank → Bool) : State :=
  s.onPresent fun r u => if chosen r then { u with ramp := u.ramp.move } else u

/-- The hold state becomes HELD with a cause, no match under way, the generators frozen (R173, R174, R97).
The step record stands, its tick done yes or no as it was (R175; log 40). That the match record is emptied
when a match is met or a HOLD ends RUN_TO_MATCH is the model's choice (log 41): R183 empties it only at
resets. -/
def State.enterHeld (s : State) (cause : HoldCause) : State :=
  (s.setService { s.service with hold := .held, cause := some cause, matching := none }).freezeRamps

/-- The match met at this ramp step, if any (R97). -/
def State.matchMet (s : State) : Option Rank :=
  match s.service.hold, s.service.matching with
  | .runToMatch, some m => if m.meets (s.ranks.get m.rank).ramp.output then some m.rank else none
  | _, _ => none

/-- The motion of a ramp step. At a met match the named rank is frozen unmoved; of the others, those
whose step is taken before the match have moved (R97; log 14). -/
def State.rampMotion (s : State) (beforeMatch : PerRank Bool) : State :=
  match s.matchMet with
  | some named => (s.moveRamps fun r => r != named && beforeMatch.get r).enterHeld .matched
  | none => s.moveRamps fun _ => true

/-- The counting of a step: at the tenth step after its re-choice the hold state becomes HELD with
STEP_DONE and a unicast step's result is composed (R174, R175). -/
def State.countStep (s : State) : State :=
  let st := s.service.step
  if s.service.hold = .stepping ∧ st.tickDone then
    let s := s.setService { s.service with step := { st with count := st.count + 1 } }
    if 10 ≤ st.count + 1 then
      let s := s.enterHeld .stepDone
      if st.unicast then s.offerStepResult else s
    else s
  else s

/-- RAMP_STEP with the three fault-sense levels and, for each rank, whether its step is taken before a
match (R93). -/
def execRampStep (flt beforeMatch : PerRank Bool) (s : State) : Answered :=
  .next <| s.live fun s =>
    s.onExpiry s.rampClock (ms 20) fun at_ s =>
      (((s.setRampClock (some at_)).senseFaults flt).rampMotion beforeMatch).countStep

end Sys2Proof.Machine
end

