-- ==== Sys2Proof/Machine/ServiceEngine.lean ====
section
/-! DEFINITION. The service engine: judging a request, executing each kind, and answering it
(10_service_requests.md, R169 to R182). -/

namespace Sys2Proof.Machine

/-- The request kinds, with their parameters read (R148). -/
inductive Action where
  | queryState
  | hold
  | release
  | step
  | runToMatch (rank : Rank) (value : Nat) (sense : Sense)
  | forceLevel (set : PerRank Bool) (level : Nat)
  | forceCancel (set : PerRank Bool)
  | snapshotLoad
  | snapshotShift
  | readEntry (pos : Nat)
  | readFronts
  | clearConditions (named : Half)
  | restart
  deriving DecidableEq, Repr

/-- What becomes of a request's kind and parameters (R169). -/
inductive Judged where
  | unknown
  | bad
  | fine (a : Action)
  deriving DecidableEq, Repr

/-- A kind that takes no parameters (R148). -/
def plain (a : Action) : List Byte → Judged
  | [] => .fine a
  | _ => .bad

/-- Every rank the set names is present (R169). -/
def State.allPresent (s : State) (set : PerRank Bool) : Bool :=
  (!set.a || s.present .a) && (!set.b || s.present .b) && (!set.c || s.present .c)

/-- The sense of a code (R148). -/
def senseOf : Nat → Option Sense
  | 0 => some .atOrAbove
  | 1 => some .atOrBelow
  | _ => none

/-- The parameters of RUN TO MATCH: rank, value, sense (R148, R172, R176). -/
def State.judgeMatch (s : State) : List Byte → Judged
  | [r, hi, lo, x] =>
    match rankOf r.toNat, senseOf x.toNat with
    | some rank, some sense =>
      if s.present rank && decide (number hi lo ≤ 1000) then .fine (.runToMatch rank (number hi lo) sense)
      else .bad
    | _, _ => .bad
  | _ => .bad

/-- The parameters of FORCE LEVEL: rank set, level (R148, R172). -/
def State.judgeForce (s : State) : List Byte → Judged
  | [b, hi, lo] =>
    match rankSetOf b with
    | some set =>
      if s.allPresent set && decide (number hi lo ≤ 1000) then .fine (.forceLevel set (number hi lo)) else .bad
    | none => .bad
  | _ => .bad

/-- The parameter of FORCE CANCEL: rank set (R148, R172). -/
def State.judgeCancel (s : State) : List Byte → Judged
  | [b] =>
    match rankSetOf b with
    | some set => if s.allPresent set then .fine (.forceCancel set) else .bad
    | none => .bad
  | _ => .bad

/-- The parameter of READ ENTRY: a position 0 to 62 (R35, R148). -/
def judgeEntry : List Byte → Judged
  | [p] => if p.toNat ≤ 62 then .fine (.readEntry p.toNat) else .bad
  | _ => .bad

/-- The parameter of CLEAR CONDITIONS: a conditions word (R148). -/
def judgeClear : List Byte → Judged
  | [hi, lo] => .fine (.clearConditions (BitVec.ofNat 16 (number hi lo)))
  | _ => .bad

/-- A request's kind code and parameters judged (R148, R169). -/
def State.judge (s : State) (kind : Byte) (ps : List Byte) : Judged :=
  match kind.toNat with
  | 1 => plain .queryState ps
  | 2 => plain .hold ps
  | 3 => plain .release ps
  | 4 => plain .step ps
  | 5 => s.judgeMatch ps
  | 6 => s.judgeForce ps
  | 7 => s.judgeCancel ps
  | 8 => plain .snapshotLoad ps
  | 9 => plain .snapshotShift ps
  | 10 => judgeEntry ps
  | 11 => plain .readFronts ps
  | 12 => judgeClear ps
  | 13 => plain .restart ps
  | _ => .unknown

/-- The kinds that a broadcast may carry (R169). -/
def Action.broadcastable : Action → Bool
  | .hold => true
  | .release => true
  | .step => true
  | .forceLevel _ _ => true
  | .forceCancel _ => true
  | .clearConditions _ => true
  | .restart => true
  | _ => false

/-! ## Executing -/

/-- The control path runs again: RUNNING or RUN_TO_MATCH, every arbiter re-choosing (R92). The step record
stands (log 40). That the match record is emptied at a RELEASE is the model's choice (log 41). -/
def State.leaveHold (s : State) (h : Hold) (m : Option MatchRecord) : State :=
  (s.setService { s.service with hold := h, cause := none, matching := m }).endFreeze

/-- HOLD (R173, R175): a step that it ends after its tick ends with tick done yes. -/
def State.doHold (s : State) : State :=
  let v := s.service
  if v.hold = .held then s
  else
    let s := s.enterHeld .request
    if v.hold = .stepping ∧ v.step.unicast then s.offerStepResult else s

/-- RELEASE (R173, R175): a unicast step that it ends before its tick owes its result. -/
def State.doRelease (s : State) : State :=
  let v := s.service
  if v.hold = .running then s
  else
    let s := s.leaveHold .running none
    if v.hold = .stepping ∧ v.step.unicast then
      if v.step.tickDone then s.offerStepResult
      else s.setService { s.service with owed := true }
    else s

/-- STEP from HELD (R174). -/
def State.doStep (s : State) (unicast : Bool) : State :=
  s.setService
    { s.service with
      hold := .stepping, cause := none, step := { tickDone := false, count := 0, unicast := unicast } }

/-- RUN TO MATCH (R176): from HELD it ends the hold for the arbiters. -/
def State.doRunToMatch (s : State) (m : MatchRecord) : State :=
  if s.service.hold = .held then s.leaveHold .runToMatch (some m)
  else s.setService { s.service with hold := .runToMatch, cause := none, matching := some m }

/-- FORCE LEVEL (R177). -/
def State.doForce (s : State) (set : PerRank Bool) (level : Nat) : State :=
  (s.changeClaims fun r c =>
      if set.get r then { c with force := some { value := level, rule := bothWays 1000 } } else c).setService
    { s.service with force := some s.clock }

/-- Some rank holds SERVICE_FORCE. -/
def State.anyForced (s : State) : Bool :=
  s.ranks.a.claims.force.isSome || s.ranks.b.claims.force.isSome || s.ranks.c.claims.force.isSome

/-- FORCE CANCEL (R177): the timer stops when no rank is left forced. -/
def State.doCancel (s : State) (set : PerRank Bool) : State :=
  let s := s.changeClaims fun r c => if set.get r then { c with force := none } else c
  if s.anyForced then s else s.setService { s.service with force := none }

/-- SNAPSHOT LOAD (R179). -/
def State.doLoad (s : State) : State :=
  s.setService { s.service with snapshot := some s.snapshotImage, shiftIndex := 0 }

/-- SNAPSHOT SHIFT: the station it leaves and its answer (R152, R179). -/
def State.doShift (s : State) : State × Answer :=
  match s.service.snapshot with
  | none => (s, answerNot .refusedState)
  | some image =>
    if s.service.shiftIndex < 8 then
      (s.setService { s.service with shiftIndex := s.service.shiftIndex + 1 },
        answerData (segment image s.service.shiftIndex))
    else (s, { outcome := .done, data := [], fin := true })

/-- A request executed: the station it leaves, and the answer composed at once; a unicast STEP from
HELD answers only when its step ends (R170, R172). -/
def State.perform (s : State) (unicast : Bool) : Action → State × Option Answer
  | .queryState => (s, some (answerData s.queryData))
  | .hold => (s.doHold, some answerDone)
  | .release => (s.doRelease, some answerDone)
  | .step =>
    if s.service.hold = .held then (s.doStep unicast, none) else (s, some (answerNot .refusedState))
  | .runToMatch rank value sense =>
    if s.service.hold = .stepping then (s, some (answerNot .refusedState))
    else (s.doRunToMatch { rank := rank, value := value, sense := sense }, some answerDone)
  | .forceLevel set level => (s.doForce set level, some answerDone)
  | .forceCancel set => (s.doCancel set, some answerDone)
  | .snapshotLoad => (s.doLoad, some (answerData [1, 0, 8]))
  | .snapshotShift => let x := s.doShift; (x.1, some x.2)
  | .readEntry p => (s, some (answerData (s.entryData p)))
  | .readFronts => (s, some (answerData s.frontsData))
  | .clearConditions w => (s.clearConditions w, some answerDone)
  | .restart => (s, some answerDone)

/-- A unicast request taken outside MUTE (R169, R170). A RESTART's restart follows its result (R182). -/
def State.takeUnicast (s : State) (q : RequestBody) : State :=
  if s.service.phase = .idle then
    let judged := s.judge q.kind q.params
    let p : Pending := { kind := q.kind, tag := q.tag, restarts := judged == .fine .restart }
    let s := s.setService { s.service with phase := .executing, pending := some p }
    match judged with
    | .unknown => s.offerResult p (answerNot .unknownRequest)
    | .bad => s.offerResult p (answerNot .badParameter)
    | .fine a =>
      match s.perform true a with
      | (s, some ans) => s.offerResult p ans
      | (s, none) => s
  else s.setService { s.service with overrun := true }

/-- A broadcast request taken outside MUTE: executed when its kind is broadcastable and its parameters
are in range, without a result (R169, R182). -/
def State.takeBroadcast (s : State) (q : RequestBody) : State :=
  match s.judge q.kind q.params with
  | .fine .restart => s.restartBegin
  | .fine a => if a.broadcastable then (s.perform false a).1 else s
  | _ => s

/-- A SERVICE REQUEST delivered to the service engine (R169). In MUTE only RESTART is executed, at once
and without a result (R169, R192); READ ENTRY is passed over there too, as these rules and R180 give and
against a clause of R39 (DEDUCED, log 38). -/
def State.takeRequest (s : State) (q : RequestBody) : State :=
  if q.target = s.own ∨ q.target = 63 then
    if s.mode = .mute then
      if q.kind = restartKind ∧ q.params = [] then s.restartBegin else s
    else if q.target = 63 then s.takeBroadcast q
    else s.takeUnicast q
  else s

/-- FORCE_TIMER_EXPIRY: 10 min after the last FORCE LEVEL every force is withdrawn (R178). -/
def execForceTimerExpiry (s : State) : Answered :=
  .next <| s.live fun s =>
    s.onExpiry s.service.force forceLimit fun _ s =>
      let s := s.changeClaims fun _ c => { c with force := none }
      (s.setService { s.service with force := none }).latch .forceExpired

end Sys2Proof.Machine
end

