-- ==== Sys2Proof/Machine/Reception.lean ====
section
/-! DEFINITION. What follows the acceptance of a frame: the duplicate-position test, delivery with the
body check, and the end of DEFER (R133 to R136, R144, R23 to R29, R71, R166); and the discard of a frame
under assembly (R132). -/

namespace Sys2Proof.Machine

/-- The kind codes of R142. -/
def kindFull : Nat := 1
def kindDelta : Nat := 2
def kindNotice : Nat := 3
def kindRequest : Nat := 4
def kindResult : Nat := 5

/-- DEFER ends (R166). -/
def State.endDefer (s : State) : State :=
  if s.tx.contention = .defer then s.setTx { s.tx with contention := restingState s.tx.queue } else s

/-- A peer's want list that names the own position makes a FULL due (R29). -/
def State.answerWant (s : State) (want : List Nat) : State :=
  if want.contains s.own then s.fullDue else s

/-- A FULL REPORT taken by the row table (R24). -/
def State.takeFull (s : State) (p seq : Nat) (r : Published) : State :=
  (s.setRows (s.rows.takeFull p seq s.clock r)).answerWant r.want

/-- A DELTA REPORT taken by the row table: applied in chain, or a gap (R25, R26). -/
def State.takeDelta (s : State) (p seq : Nat) (d : Delta) : State :=
  let s :=
    if (s.rows.entry p).inChain seq then s.setRows (s.rows.takeDelta p seq s.clock d)
    else (s.setRows (s.rows.takeGap p s.clock)).latch .deltaGap
  s.answerWant d.want

/-- A malformed body is dropped whole with RX_FRAME_ERROR latched; a body that passes goes to its
consumer (R144). -/
def State.orMalformed {α : Type} (s : State) (body : Option α) (take : α → State) : State :=
  match body with
  | some x => take x
  | none => s.latch .rxFrameError

/-- An accepted frame delivered by its kind (R133). -/
def State.deliver (s : State) (kind p seq : Nat) (body : List Byte) : State :=
  if kind = kindFull then s.orMalformed (readFull body) (s.takeFull p seq)
  else if kind = kindDelta then s.orMalformed (readDelta body) (s.takeDelta p seq)
  else if kind = kindNotice then s.orMalformed (readNotice body) s.takeNotice
  else if kind = kindRequest then s.orMalformed (readRequest body) s.takeRequest
  else s

/-- A frame accepted with `driving` clear: in CONFIG it is not delivered; otherwise the duplicate test,
which does not apply at position 63, comes before delivery; in every case it ends DEFER (R133, R135,
R136). That delivery comes before the end of DEFER, which an image loaded then shows, is the model's choice
(log 39). -/
def State.acceptFrame (s : State) (kind p seq : Nat) (body : List Byte) : State :=
  let s :=
    if s.mode = .config then s
    else if p = s.own ∧ p ≠ 63 then s.duplicateFound
    else s.deliver kind p seq body
  s.endDefer

/-- The class, kind and position agree (R130); `none` for an unknown kind. -/
def headerFits (kind cls p : Nat) : Option Bool :=
  if kind = 0 ∨ 6 ≤ kind then none
  else some (cls == classOf kind && (if kind = kindRequest then p == 63 else p != 63))

/-- ROW and the receiver at the end of a frame's last check character: no peer pulls, the line is BUSY
and the recessive time starts from 0, the receiver is in SEARCH with no character under assembly and the
after-idle mark clear. A frame that followed an idle point began with a start edge that discards one
abandoned before it (R126, R129, R131 to R133; log 12). -/
def State.frameHeard (s : State) : State :=
  (s.discardAbandoned.setLine
    { pulled := false, state := .busy, recessiveTime := some s.clock, dominantTime := none
      releaseTime := none }).setRx
    { state := .search, char := none, afterIdle := false, frame := none, ownStart := false }

/-- A frame heard whole from another sender, as one event at the end of its last check character: nothing
is accepted on a STUCK line or in ISLAND (R127, R135), nor while the station itself drives a frame
(R134); a header that cannot be accepted is discarded (R130). -/
def State.hear (s : State) (kind : Nat) (p : BitVec 6) (seq : Nat) (body : List Byte) : State :=
  if s.line.state = .stuck ∨ s.mode = .island ∨ s.driveNow.drives then s
  else
    let s := s.driveNow
    if headerFits kind (classOf kind) p.toNat = some true ∧ body.length ≤ 48 then
      s.frameHeard.acceptFrame kind p.toNat seq body
    else s.frameHeard.latchIf (s.rx.afterIdle || !s.touchedFrame) .rxFrameError

/-- FULL_REPORT (R24, R133). -/
def execFullReport (pos : BitVec 6) (seq : BitVec 4) (body : List Byte) (straps : BitVec 6)
    (s : State) : Answered :=
  .next <| s.live fun s => (s.showStraps straps).hear kindFull pos seq.toNat body

/-- DELTA_REPORT (R25, R26, R133). -/
def execDeltaReport (pos : BitVec 6) (seq : BitVec 4) (body : List Byte) (straps : BitVec 6)
    (s : State) : Answered :=
  .next <| s.live fun s => (s.showStraps straps).hear kindDelta pos seq.toNat body

/-- FRONT_NOTICE (R71 to R74, R133). -/
def execFrontNotice (pos : BitVec 6) (body : List Byte) (straps : BitVec 6) (s : State) : Answered :=
  .next <| s.live fun s => (s.showStraps straps).hear kindNotice pos 0 body

/-- SERVICE_RESULT_HEARD: delivered to no block, but tested for a duplicate and ending DEFER (R133, R135). -/
def execServiceResultHeard (pos : BitVec 6) (straps : BitVec 6) (s : State) : Answered :=
  .next <| s.live fun s => (s.showStraps straps).hear kindResult pos 0 []

/-- A SERVICE REQUEST frame from position 63 heard whole, with its kind code. -/
def State.hearRequest (s : State) (kind : Byte) (q : Request) : State :=
  s.hear kindRequest 63#6 0 (q.target :: q.tag :: kind :: q.params)

end Sys2Proof.Machine
end

