-- ==== Sys2Proof/Machine/LineEvents.lean ====
section
/-! DEFINITION. The commands of the line monitor and of the receiver at character level
(07_row_line_signalling.md, R124 to R132). -/

namespace Sys2Proof.Machine

/-! ## Line monitor -/

/-- TRANSITION_TO_DOMINANT: another peer pulls ROW. ROW falls unless the station already holds it low
(R124 to R128). -/
def execTransitionToDominant (s : State) : Answered :=
  .next <|
    if s.running then
      let s := s.driveNow
      if s.line.pulled then s else s.peersPull true
    else s.setLine { s.line with pulled := true }

/-- RETURN_TO_RECESSIVE: no other peer pulls ROW any more. ROW rises unless the station holds it low
(R124, R126 to R128). -/
def execReturnToRecessive (s : State) : Answered :=
  .next <|
    if s.running then
      let s := s.driveNow
      if s.line.pulled then s.peersPull false else s
    else s.setLine { s.line with pulled := false }

/-- An idle point: the after-idle mark is set (R126, R129). -/
def State.idlePoint (s : State) : State :=
  (s.setLine { s.line with state := .idle }).setRx { s.rx with afterIdle := true }

/-- IDLE_POINT: the recessive time reaches 14 bit times while BUSY, which it does not inside a frame the
station drives (R126). -/
def execIdlePoint (s : State) : Answered :=
  .next <| s.live fun s =>
    let s := s.driveNow
    if s.line.state = .busy ∧ ¬ s.drives then s.onExpiry s.line.recessiveTime (bits 14) fun _ s => s.idlePoint
    else s

/-- DOMINANT_TIMEOUT: 50 ms of dominance, at the entry to STUCK and at every further 50 ms; only another
peer holds ROW that long (R127). -/
def execDominantTimeout (straps : BitVec 6) (s : State) : Answered :=
  .next <| s.live fun s =>
    let s := s.driveNow
    if s.line.pulled then
      s.onExpiry s.line.dominantTime (ms 50) fun at_ s =>
        let entering := s.line.state != .stuck
        let s := (s.showStraps straps).latch .lineStuck
        let s := s.setLine { s.line with dominantTime := some at_, state := .stuck }
        if entering then (s.rxSearch.setRx { s.rxSearch.rx with char := none }).onStuck else s
    else s

/-- The line has left STUCK: an ISLAND station goes to LISTEN with its timer from 0 (R128, R191). -/
def State.onReleased (s : State) : State :=
  if s.mode = .island then s.setStartUp { s.startUp with mode := .listen, listen := some s.clock } else s

/-- LINE_RELEASE: 100 ms recessive in STUCK; the moment is an idle point (R128). -/
def execLineRelease (s : State) : Answered :=
  .next <| s.live fun s =>
    if s.line.state = .stuck then
      s.onExpiry s.line.releaseTime (ms 100) fun _ s =>
        ((s.setLine { s.line with releaseTime := none }).idlePoint).onReleased
    else s

/-- RX_GAP_TIMEOUT: 20 recessive bit times with a frame under assembly (R132). -/
def execRxGapTimeout (s : State) : Answered :=
  .next <| s.live fun s =>
    let s := s.driveNow
    if s.rx.frame.isSome ∧ ¬ s.drives then
      s.onExpiry s.line.recessiveTime (bits 20) fun _ s => s.discardFrame false
    else s

/-- RX_FRAME_DISCARD: the frame under assembly is discarded for the cause given (R132; log 13). -/
def execRxFrameDiscard (cause : DiscardCause) (s : State) : Answered :=
  .next <| s.live fun s =>
    if s.rx.frame.isSome then s.discardFrame (cause == .unknownKind) else s

/-! ## Characters (R125) -/

/-- How a character is judged at its end. -/
inductive Judgement where
  | glitch
  | good (v : Byte)
  | parityError
  | framingError
  | break_
  deriving DecidableEq, Repr

/-- The eight data bits of the samples: samples 1 to 8, least significant first (R124). -/
def dataBits (x : BitVec 11) : Byte := x.extractLsb' 1 8

/-- The count of recessive bits among data and parity is even (R124). -/
def parityEven (x : BitVec 11) : Bool :=
  !((x.getLsbD 1).xor ((x.getLsbD 2).xor ((x.getLsbD 3).xor ((x.getLsbD 4).xor ((x.getLsbD 5).xor
    ((x.getLsbD 6).xor ((x.getLsbD 7).xor ((x.getLsbD 8).xor (x.getLsbD 9)))))))))

/-- The judgement of the 11 samples, sample i in bit i and 1 for recessive: bit 0 the start bit, 1 to 8
the data, 9 the parity, 10 the stop bit (R125). -/
def judgeSamples (x : BitVec 11) : Judgement :=
  if x.getLsbD 0 then .glitch
  else if x.getLsbD 10 then (if parityEven x then .good (dataBits x) else .parityError)
  else if dataBits x = 0 then .break_
  else .framingError

/-- A frame opens (R129): `touched` when this station began it, `driving` while it still drives, having
read no bit back wrong. -/
def State.openFrame (s : State) (afterIdle : Bool) : State :=
  let own := s.rx.ownStart && afterIdle
  s.setRx { s.rx with
    state := .header
    frame := some
      { access := none, kindSeq := none, length := none, body := [], crc := 0xFFFF#16, check := none
        driving := own && s.tx.flight.any (fun f => !f.wrong), touched := own } }

/-- The frame under assembly with the next character's place and the receiver state set. -/
def State.rxNext (s : State) (st : RxState) (f : RxFrame) : State :=
  s.setRx { s.rx with state := st, frame := some f }

/-- A good character taken in HEADER (R130). -/
def State.takeHeader (s : State) (f : RxFrame) (v : Byte) : State :=
  let g := { f with crc := crcByte f.crc v }
  match f.access, f.kindSeq with
  | none, _ => s.rxNext .header { g with access := some v }
  | some a, none =>
    match headerFits (v.toNat / 16) (a.toNat / 64) (a.toNat % 64) with
    | none => s.discardFrame true
    | some false => s.discardFrame false
    | some true => s.rxNext .header { g with kindSeq := some v }
  | some _, some _ =>
    if 48 < v.toNat then s.discardFrame false
    else s.rxNext (if v.toNat = 0 then .check else .body) { g with length := some v.toNat }

/-- A good character taken in BODY (R131). -/
def State.takeBody (s : State) (f : RxFrame) (v : Byte) : State :=
  let g := { f with crc := crcByte f.crc v, body := f.body ++ [v] }
  s.rxNext (if f.length.getD 0 ≤ g.body.length then .check else .body) g

/-- The whole frame accepted at the end of its second check character: an own frame is delivered to no
block (R134); another's is tested and delivered (R133). -/
def State.acceptAssembled (s : State) (f : RxFrame) : State :=
  let s := s.rxSearch.setRx { s.rxSearch.rx with ownStart := false }
  if f.driving then s
  else
    let a := (f.access.getD 0).toNat
    let k := (f.kindSeq.getD 0).toNat
    s.acceptFrame (k / 16) (a % 64) (k % 16) f.body

/-- A good character taken in CHECK (R131). -/
def State.takeCheck (s : State) (f : RxFrame) (v : Byte) : State :=
  match f.check with
  | none => s.rxNext .check { f with check := some v }
  | some hi => if number hi v = f.crc.toNat then s.acceptAssembled f else s.discardFrame false

/-- A character handed to the frame assembly at its end (R129 to R132). -/
def State.takeChar (s : State) (afterIdle : Bool) (j : Judgement) : State :=
  match s.rx.frame, j with
  | _, .glitch => s
  | none, .good v => if v = sync ∧ afterIdle then s.openFrame afterIdle else s
  | none, _ => s
  | some f, .good v =>
    match s.rx.state with
    | .header => s.takeHeader f v
    | .body => s.takeBody f v
    | .check => s.takeCheck f v
    | .search => s
  | some _, _ => s.discardFrame false

/-- The samples of a character as one word, sample i in bit i. -/
def samplesWord (xs : List Bool) : BitVec 11 := (BitVec.ofBoolListLE xs).setWidth 11

/-- The character under assembly ends, all its samples taken: it is judged, the recessive time starts
again after a recessive stop sample, and the frame assembly takes it (R125, R126, R129). -/
def State.charEnds (s : State) (c : RxChar) : State :=
  let x := samplesWord c.samples
  let s := s.setRx { s.rx with char := none }
  let s := if x.getLsbD 10 then s.restartRecessive else s
  s.takeChar c.afterIdle (judgeSamples x)

/-- CHARACTER_END, 11 bit times after the start edge: the operand names the samples of the character that
ends, and a character other than the one ROW carried does not end (log 3). Where the first sample read
recessive there was a glitch and no character: it is forgotten at that sample (R125). A start bit of the
station's own that follows on the stop bit is driven after the end. -/
def execCharacterEnd (samples : BitVec 11) (straps : BitVec 6) (s : State) : Answered :=
  .next <| s.live fun s =>
    match s.rx.char with
    | none => s
    | some c =>
      let first := c.start + bits 1 / 2
      let u := (((s.showStraps straps).advanceTo first).driveTo first).sampleTo first
      if (u.rx.char.map RxChar.glitch) = some true then u.setRx { u.rx with char := none }
      else
        let ending := c.start + bits 11
        let v := ((u.advanceTo ending).driveTo (ending - 1)).sampleTo ending
        match v.rx.char with
        | none => v
        | some d =>
          if samplesWord d.samples = samples then
            (if v.drives then (v.charEnds d).driveNow else v.charEnds d)
          else s

end Sys2Proof.Machine
end

