-- ==== Sys2Proof/Machine/RowEvents.lean ====
section
/-! DEFINITION. The ageing of row-table entries (02_the_row_table.md, R30, R32). -/

namespace Sys2Proof.Machine

/-- The entry of `p` with a new status, and its timer as given. -/
def RowTable.age (t : RowTable) (p : Nat) (st : Status) (f : Timer) : RowTable :=
  t.setEntry p { t.entry p with status := st, freshness := f }

/-- FRESHNESS_STALE: a FRESH entry's freshness timer reaches 3P (R30). -/
def execFreshnessStale (pos : BitVec 6) (s : State) : Answered :=
  .next <| s.live fun s =>
    let e := s.rows.entry pos.toNat
    if e.status = .fresh then
      s.onExpiry e.freshness (sec (3 * s.img.period)) fun _ s =>
        s.setRows (s.rows.age pos.toNat .stale e.freshness)
    else s

/-- FRESHNESS_LOST: a STALE entry's freshness timer reaches 8P; the timer stops and the position leaves
the want-full list (R30, R32). -/
def execFreshnessLost (pos : BitVec 6) (s : State) : Answered :=
  .next <| s.live fun s =>
    let e := s.rows.entry pos.toNat
    if e.status = .stale then
      s.onExpiry e.freshness (sec (8 * s.img.period)) fun _ s =>
        s.setRows ((s.rows.age pos.toNat .lost none).dropWant pos.toNat)
    else s

end Sys2Proof.Machine
end

