-- ==== Sys2Proof/Machine/ServiceRequests.lean ====
section
/-! DEFINITION. The service requests as commands: an accepted SERVICE REQUEST of each kind
(10_service_requests.md; kind codes of R148). -/

namespace Sys2Proof.Machine

/-- QUERY_STATE (R180, R150). -/
def execQueryState (q : Request) (s : State) : Answered := .next <| s.live fun s => s.hearRequest 1#8 q

/-- HOLD (R173). -/
def execHold (q : Request) (s : State) : Answered := .next <| s.live fun s => s.hearRequest 2#8 q

/-- RELEASE (R173). -/
def execRelease (q : Request) (s : State) : Answered := .next <| s.live fun s => s.hearRequest 3#8 q

/-- STEP (R174). -/
def execStep (q : Request) (s : State) : Answered := .next <| s.live fun s => s.hearRequest 4#8 q

/-- RUN_TO_MATCH (R176). -/
def execRunToMatch (q : Request) (s : State) : Answered := .next <| s.live fun s => s.hearRequest 5#8 q

/-- FORCE_LEVEL (R177). -/
def execForceLevel (q : Request) (s : State) : Answered := .next <| s.live fun s => s.hearRequest 6#8 q

/-- FORCE_CANCEL (R177). -/
def execForceCancel (q : Request) (s : State) : Answered := .next <| s.live fun s => s.hearRequest 7#8 q

/-- SNAPSHOT_LOAD (R179). -/
def execSnapshotLoad (q : Request) (s : State) : Answered := .next <| s.live fun s => s.hearRequest 8#8 q

/-- SNAPSHOT_SHIFT (R179). -/
def execSnapshotShift (q : Request) (s : State) : Answered := .next <| s.live fun s => s.hearRequest 9#8 q

/-- READ_ENTRY (R35, R180). -/
def execReadEntry (q : Request) (s : State) : Answered := .next <| s.live fun s => s.hearRequest 10#8 q

/-- READ_FRONTS (R84, R180). -/
def execReadFronts (q : Request) (s : State) : Answered := .next <| s.live fun s => s.hearRequest 11#8 q

/-- CLEAR_CONDITIONS (R181). -/
def execClearConditions (q : Request) (s : State) : Answered :=
  .next <| s.live fun s => s.hearRequest 12#8 q

/-- RESTART, with the strap levels a restart that begins at it reads (R182, R186). -/
def execRestart (q : Request) (straps : BitVec 6) (s : State) : Answered :=
  .next <| s.live fun s => (s.showStraps straps).hearRequest 13#8 q

/-- UNKNOWN_SERVICE_REQUEST: a kind code not in R148's table (R169). -/
def execUnknownServiceRequest (kind : Byte) (q : Request) (s : State) : Answered :=
  .next <| s.live fun s => s.hearRequest kind q

end Sys2Proof.Machine
end

