-- ==== Sys2Proof/Machine/StartUpEvents.lean ====
section
/-! DEFINITION. The commands of the start-up controller: supply, RESET_N, the configuration read and the
LISTEN timer (11_start_up_and_station_modes.md). -/

namespace Sys2Proof.Machine

/-- POWER_UP: every block takes its power-up values; with RESET_N already high the release follows at
the end of power-up, and with it low the part is held (R184; log 9). -/
def execPowerUp (resetNHigh : Bool) (straps : BitVec 6) (rowDominant wswHigh : Bool)
    (first : AttemptOutcome) (s : State) : Answered :=
  .next <|
    let held := State.inReset s.pending { Pins.atReset with straps := straps, wswHigh := wswHigh } rowDominant
    if resetNHigh then held.released first else held

/-- RESET_N_ASSERT: the whole part returns to its power-up values and is held there (R184). -/
def execResetNAssert (s : State) : Answered :=
  .next (State.inReset s.pending s.pins s.line.pulled)

/-- RESET_N_RELEASE: CONFIG begins from the power-up values (R184; log 8). -/
def execResetNRelease (straps : BitVec 6) (first : AttemptOutcome) (s : State) : Answered :=
  .next ((s.showStraps straps).released first)

/-- The poll timer stands below 100 ms (R187). -/
def State.pollBelow (s : State) : Bool :=
  match s.startUp.poll with
  | some t => decide (s.elapsed t < ms 100)
  | none => false

/-- ADDRESS_ATTEMPT: the next attempt, 1 ms after the last began, while the poll timer is below 100 ms
(R187). -/
def execAddressAttempt (outcome : AttemptOutcome) (s : State) : Answered :=
  .next <| s.live fun s =>
    if s.startUp.read = .waiting then
      let t := s.advanceTo (s.startUp.lastAttempt + ms 1)
      if t.pollBelow then
        t.setStartUp { t.startUp with read := readPhaseAfter outcome, lastAttempt := t.clock }
      else s
    else s

/-- SCL_STALL_TIMEOUT: SCL has stayed low for 10 ms in an attempt or in the read. The attempt counts as
failed; a read that stalls with the poll timer past 100 ms ends without an image (R187). -/
def execSclStallTimeout (s : State) : Answered :=
  .next <| s.live fun s =>
    match s.startUp.read with
    | .stalled =>
      let s := s.advanceTo (s.startUp.lastAttempt + ms 10)
      s.setStartUp { s.startUp with read := .waiting }
    | .reading =>
      let s := s.advanceTo (s.startUp.lastAttempt + ms 10)
      if s.pollBelow then s.setStartUp { s.startUp with read := .waiting } else s.endWithoutImage
    | _ => s

/-- CONFIG_POLL_TIMEOUT: the poll timer reaches 100 ms with no attempt having succeeded (R187, R188). -/
def execConfigPollTimeout (s : State) : Answered :=
  .next <| s.live fun s =>
    if s.startUp.read = .waiting ∨ s.startUp.read = .stalled then
      s.onExpiry s.startUp.poll (ms 100) fun _ s => s.endWithoutImage
    else s

/-- IMAGE_READ_COMPLETE: the bytes read are checked, and the image or the defaults come into use (R188). -/
def execImageReadComplete (bytes : List Byte) (s : State) : Answered :=
  .next <| s.live fun s =>
    if s.startUp.read = .reading then
      match readImage bytes with
      | some i => s.endConfig i .image
      | none => s.endConfig defaultImage .badImage
    else s

/-- LISTEN_TIMER_EXPIRY: the LISTEN timer reaches 3P and the mode becomes ACTIVE (R190). -/
def execListenTimerExpiry (s : State) : Answered :=
  .next <| s.live fun s =>
    if s.mode = .listen then
      s.onExpiry s.startUp.listen (sec (3 * s.img.period)) fun _ s => s.enterActive
    else s

end Sys2Proof.Machine
end

