-- ==== Sys2Proof/Machine/Transmit.lean ====
section
/-! DEFINITION. The commands of the transmit scheduler: attempts, arbitration, garbles, completion,
DEFER and the report timer (09_transmit_queue_and_contention.md, R157 to R166). -/

namespace Sys2Proof.Machine

/-- REPORT_TIMER_EXPIRY: a multiple of P is reached and a FULL falls due (R157). -/
def execReportTimerExpiry (s : State) : Answered :=
  .next <| s.live fun s =>
    s.onExpiry s.tx.report (sec s.img.period) fun at_ s =>
      (s.setTx { s.tx with report := some at_ }).fullDue

/-- The sequence that follows the committed one (R162). -/
def State.nextSeq (s : State) : Nat := (s.tx.seq + 1) % 16

/-- A flight starting now. -/
def State.flightOf (s : State) (kind seq : Nat) (body : List Byte) (report : Option Published) : Flight :=
  { start := s.clock, chars := frameChars kind s.own seq body, driven := 0, read := 0, wrong := false
    seq := seq, report := report, asFull := kind == kindFull }

/-- A FULL REPORT of the published record (R162). -/
def State.fullFlight (s : State) : Flight :=
  s.flightOf kindFull s.nextSeq (fullBody s.publishedRecord) (some s.publishedRecord)

/-- The judgement of a head at the start of an attempt: its composed frame, or `none` when it is dropped
without sending (R161, R162). -/
def State.compose (s : State) (e : QueueEntry) : Option Flight :=
  match e.kind with
  | .notice o n =>
    if 2000 < (s.now - e.entryTime).toNat then none
    else (findFront s.fronts.table o n).map fun f =>
      s.flightOf kindNotice 0 (noticeBody (f.toNotice s.now)) none
  | .result body => some (s.flightOf kindResult 0 body none)
  | .full => some s.fullFlight
  | .delta =>
    match planDelta s.publishedRecord s.tx.basis with
    | .full => some s.fullFlight
    | .delta d => some (s.flightOf kindDelta s.nextSeq (deltaBody d) (some s.publishedRecord))
    | .nothing => none

/-- The heads judged one after another until one is sent: the frame, and the queue left (R161). -/
def State.takeHeads (s : State) : List QueueEntry → Option Flight × List QueueEntry
  | [] => (none, [])
  | e :: rest =>
    match s.compose e with
    | some f => (some f, { e with inFlight := true } :: rest)
    | none => s.takeHeads rest

/-- An attempt may start: ACTIVE, WAIT_IDLE and the line IDLE (R161). -/
def State.mayStart (s : State) : Bool :=
  s.mode == .active && s.tx.contention == .waitIdle && s.line.state == .idle

/-- ATTEMPT_START: the frame is composed and its start bit put on ROW (R124, R161). -/
def execAttemptStart (s : State) : Answered :=
  .next <| s.live fun s =>
    if s.mayStart then
      match s.takeHeads s.tx.queue with
      | (some f, q) =>
        let s := (s.setTx { s.tx with queue := q, flight := some f, contention := .arbitrating }).driveNow
        s.setRx { s.rx with ownStart := true }
      | (none, q) => s.setTx { s.tx with queue := q, contention := .txIdle }
    else s

/-- The scheduler withdraws from a frame it did not finish, its entry staying in the queue: held-over
FULL takes effect on the marker (R156, R163). -/
def State.withdraw (s : State) (wasMarker : Bool) : State :=
  let s := s.stopDriving
  let t := if wasMarker then s.tx.useHeldFull else s.tx
  s.setTx { t with contention := restingState t.queue }

/-- The in-flight entry. -/
def Tx.inFlight (t : Tx) : Option QueueEntry := t.queue.find? QueueEntry.inFlight

/-- The in-flight entry is a report marker. -/
def Tx.markerInFlight (t : Tx) : Bool := (t.inFlight.map QueueEntry.isMarker) == some true

/-- How many bits the sync and the access character have (R142, R163). -/
def arbitrationBits : Nat := 22

/-- The frame in flight driven on, with ROW left to the other peers as it is, until one of its bits before
bit `n` reads back otherwise than it was driven: the station at that bit's sample point, and none where they
all read back right. On ROW such a bit is a recessive one that reads dominant (R124, R163, R164). -/
def State.misread (s : State) (f : Flight) (n : Nat) : Option State :=
  let u := s.driveTo (f.start + bits n)
  match u.tx.flight with
  | some g => if g.wrong && decide (g.read < n) then some (u.advanceTo (g.sampleAt g.read)) else none
  | none => none

/-- The first dominant bit before bit `n` that is still to be read back. -/
def Flight.nextDominant (f : Flight) (n : Nat) : Option Nat :=
  (List.range n).find? fun k => decide (f.read ≤ k) && !f.bit k

/-- The frame in flight driven on to the first dominant bit before bit `n` that is still to be read back: the
station at that bit's sample point, where it reads recessive for a fault on the line or in the driver
(R163); none where there is no such bit, or one reads back wrong before it. The fault is no state of ROW:
the command is all that shows it (log 25). -/
def State.faultyRead (s : State) (n : Nat) : Option State :=
  let u := s.driveNow
  match u.tx.flight with
  | some g =>
    match g.nextDominant n with
    | some k =>
      let v := u.driveTo (g.sampleAt k)
      if v.tx.flight.any Flight.wrong then none else some (v.advanceTo (g.sampleAt k))
    | none => none
  | none => none

/-- ARBITRATION_LOSS: a recessive bit of the sync or the access character reads back dominant; the attempt
costs nothing (R163). Where they all read back right there is no loss (log 3). -/
def execArbitrationLoss (s : State) : Answered :=
  .next <| s.live fun s =>
    match s.tx.contention, s.tx.flight with
    | .arbitrating, some f =>
      match s.misread f arbitrationBits with
      | some u => u.withdraw u.tx.markerInFlight
      | none => s
    | _, _ => s

/-- ARBITRATION_WON: the access character's stop bit reads back right, as every bit before it, and the state
becomes SENDING at that bit's sample point, 21.5 bit times after the start, before the character ends and the
next start bit follows (R125, R163, log 22). -/
def execArbitrationWon (s : State) : Answered :=
  .next <| s.live fun s =>
    match s.tx.contention, s.tx.flight with
    | .arbitrating, some f =>
      let won := f.sampleAt (arbitrationBits - 1)
      let u := (s.advanceTo won).driveTo won
      if arbitrationBits ≤ u.bitsRead then u.setTx { u.tx with contention := .sending } else s
    | _, _ => s

/-- The in-flight entry's attempt count raised by 1 (R164). -/
def countGarble (e : QueueEntry) : QueueEntry :=
  if e.inFlight then { e with attempts := e.attempts + 1 } else e

/-- The parting report has completed or was dropped: the station goes to MUTE (R137, R167). -/
def State.partingEnd (s : State) : State := s.leaveActive .mute

/-- The in-flight entry dropped at its fourth garble (R164): TX_GARBLE is latched; a result is reported
to the service engine, a marker takes held-over FULL with it, a parting report ends. -/
def State.dropInFlight (s : State) (e : QueueEntry) : State :=
  let s := (s.setTx { s.tx with queue := s.tx.queue.filter fun x => !x.inFlight }).latch .txGarble
  let s := s.stopDriving
  let s := s.setTx { s.tx with
    contention := restingState s.tx.queue
    heldFull := if e.isMarker then false else s.tx.heldFull }
  if e.isMarker then (if s.tx.parting then s.partingEnd else s)
  else if e.isResult then s.resultGone
  else s

/-- When the scheduler finds a garble: in SENDING at the first bit that reads back wrong, and in either
state at a dominant bit that a fault makes read recessive (R163, R164). A character reads back as a break
only where its recessive stop bit reads dominant, which is such a bit (R124, R125; log 25). -/
def State.garbleMoment (s : State) : Option State :=
  match s.tx.contention, s.tx.flight with
  | .arbitrating, some _ => s.faultyRead arbitrationBits
  | .sending, some f =>
    (s.misread f (11 * f.chars.length)).or (s.faultyRead (11 * f.chars.length))
  | _, _ => none

/-- GARBLE: the frame stops where a bit reads back wrong, and the attempt counts; the fourth drops the entry
(R163, R164). Where no bit can read back wrong there is no garble (log 3). -/
def execGarble (straps : BitVec 6) (s : State) : Answered :=
  .next <| s.live fun s =>
    match s.garbleMoment, s.tx.inFlight with
    | some u, some e =>
      let u := u.showStraps straps
      if 4 ≤ e.attempts + 1 then u.dropInFlight e
      else (u.setTx { u.tx with queue := u.tx.queue.map countGarble }).withdraw e.isMarker
    | _, _ => s

/-- What a completed report commits: sequence, delta basis and completion time (R165). -/
def Tx.commit (t : Tx) (f : Flight) (now : Time) : Tx :=
  match f.report with
  | some p => { t with seq := f.seq, basis := some p, lastDone := some now }
  | none => t

/-- The frame completed at the end of its last character: its entry leaves the queue and the state becomes
DEFER (R165), the receiver judges the same frame an own frame and is back in SEARCH (R134), and the
recessive time starts (R126). -/
def State.completed (s : State) (f : Flight) : State :=
  let t := s.tx.commit f s.now
  ((s.rxSearch.setTx
    { t with
      queue := t.queue.filter fun x => !x.inFlight
      flight := none, contention := .defer }).setRx
    { s.rxSearch.rx with char := none, ownStart := false }).restartRecessive

/-- Held-over FULL at a completion: a FULL marker joins (R156). -/
def State.joinHeldFull (s : State) : State :=
  if s.tx.heldFull then (s.setTx { s.tx with heldFull := false }).fullDue else s

/-- FRAME_COMPLETE: the stop bit of the last CRC character reads back right, as every bit before it, and the
frame completes at the end of that bit, (n + 6) × 11 bit times after the start (R140, R165, log 22). A
completed result may begin a restart; a completed parting report mutes the station. Where a bit read back
wrong no frame completes (log 3). -/
def execFrameComplete (straps : BitVec 6) (s : State) : Answered :=
  .next <| s.live fun s =>
    match s.tx.contention, s.tx.flight, s.tx.inFlight with
    | .sending, some f, some e =>
      let u := (s.advanceTo f.ends).driveNow
      if 11 * f.chars.length ≤ u.bitsRead then
        let u := ((u.showStraps straps).completed f).joinHeldFull
        if e.isResult then u.resultGone
        else if e.isMarker ∧ s.tx.parting then u.partingEnd
        else u
      else s
    | _, _, _ => s

/-- DEFER_TIMEOUT: the recessive time reaches 40 bit times in DEFER (R166). -/
def execDeferTimeout (s : State) : Answered :=
  .next <| s.live fun s =>
    if s.tx.contention = .defer then
      s.onExpiry s.line.recessiveTime (bits 40) fun _ s => s.endDefer
    else s

end Sys2Proof.Machine
end

