-- ==== Sys2Proof/Machine/WallControls.lean ====
section
/-! DEFINITION. The commands of the occupancy unit and the switch unit
(06_occupancy_and_wall_controls.md). -/

namespace Sys2Proof.Machine

/-! ## Occupancy unit -/

/-- The transition is the configured active edge (R107). -/
def isActiveEdge (i : Image) : Edge → Bool
  | .rising => !i.edgeFalling
  | .falling => i.edgeFalling

/-- The unit takes edges: after CONFIG, with occupancy used (R107). -/
def State.takesEdges (s : State) : Bool := s.mode != .config && s.img.occUsed

/-- An edge's time joins the list; the oldest of 16 leaves it (R108). -/
def joinEdge (edges : List Time) (t : Time) : List Time :=
  (if 16 ≤ edges.length then edges.drop 1 else edges) ++ [t]

/-- The state becomes OCCUPIED: the vacancy timer restarts and VACANCY is withdrawn (R109, R111). -/
def State.becomeOccupied (s : State) : State :=
  (s.setOcc { s.occ with state := .occupied, vacancy := some s.clock }).changeClaims
    fun _ c => { c with vacancy := none }

/-- An active edge taken (R108, R109). -/
def State.takeEdge (s : State) : State :=
  let s := s.setOcc { s.occ with edges := joinEdge s.occ.edges s.now }
  match s.occ.state with
  | .occupied => s.setOcc { s.occ with vacancy := some s.clock }
  | _ => if s.img.edges ≤ s.occ.edges.length then s.becomeOccupied else s

/-- OCC_ACTIVE_EDGE: a transition of OCC; one that is not the active edge is passed over (R107). -/
def execOccActiveEdge (edge : Edge) (s : State) : Answered :=
  .next <| s.live fun s =>
    if s.takesEdges && isActiveEdge s.img edge then s.takeEdge else s

/-- EDGE_AGE_OUT: the oldest time becomes 10,000 ms old and leaves the list (R108). -/
def execEdgeAgeOut (s : State) : Answered :=
  .next <| s.live fun s =>
    match s.occ.edges with
    | [] => s
    | t :: rest =>
      let s := s.advanceToTime (later t 10000)
      s.setOcc { s.occ with edges := rest }

/-- The state becomes VACANT: the timer stops, VACANCY is asserted and any override cancelled (R110,
R111). -/
def State.becomeVacant (s : State) : State :=
  ((s.setOcc { s.occ with state := .vacant, vacancy := none }).assertVacancy).cancelOverride

/-- VACANCY_TIMER_EXPIRY: the timer reaches the vacancy time of the image in use (R110). -/
def execVacancyTimerExpiry (s : State) : Answered :=
  .next <| s.live fun s =>
    if s.mode = .config then s
    else s.onExpiry s.occ.vacancy (minutes s.img.vacancyMin) fun _ s => s.becomeVacant

/-! ## Switch unit -/

/-- SWITCH with the override level and the rule in force, on each present rank (R119). -/
def State.assertSwitch (s : State) : State :=
  let w := s.switch
  let rule := if w.press = .long ∧ w.levelStep.isSome then bothWays 250 else bothWays 1000
  s.changeClaims fun _ c => { c with switch := w.level.map fun v => { value := v, rule := rule } }

/-- The direction of a first long press: UP below 500, DOWN otherwise (R117). -/
def firstTravel (level : Nat) : Travel := if level < 500 then .up else .down

/-- The direction reversed (R117). -/
def Travel.reversed : Travel → Travel
  | .up => .down
  | .down => .up

/-- The short-press action (R116). -/
def State.shortPress (s : State) : State :=
  if s.overriding then s.cancelOverride
  else
    (s.setSwitch { s.switch with
      level := some (if 0 < s.highestOutput then 0 else 1000)
      travel := none, override := some s.clock }).assertSwitch

/-- The long-press action (R117). -/
def State.longPress (s : State) : State :=
  let w := { s.switch with press := .long, pressTimer := none, levelStep := some s.clock }
  let w := match w.level with
    | none =>
      { w with
        level := some s.highestOutput, travel := some (firstTravel s.highestOutput)
        override := some s.clock }
    | some l =>
      { w with travel := some (match w.travel with
                               | none => firstTravel l
                               | some d => d.reversed) }
  (s.setSwitch w).assertSwitch

/-- A press recognised (R115, R120). -/
def State.onPress (s : State) : State :=
  s.setSwitch { s.switch with
    press := .timing, pressTimer := some s.clock
    override := if s.overriding then some s.clock else s.switch.override }

/-- A release recognised (R115, R118). -/
def State.onRelease (s : State) : State :=
  match s.switch.press with
  | .timing => (s.setSwitch { s.switch with press := .none, pressTimer := none }).shortPress
  | .long => (s.setSwitch { s.switch with press := .none, levelStep := none }).assertSwitch
  | _ => s.setSwitch { s.switch with press := .none }

/-- WSW_LEVEL_CHANGE: WSW shows a level. Once CONFIG has ended, the debounce timer runs while the level
differs from the debounced one and stops when it returns to it (R114). -/
def execWswLevelChange (high : Bool) (s : State) : Answered :=
  .next <|
    let s := s.setPins { s.pins with wswHigh := high }
    s.live fun s =>
      if s.mode = .config then s
      else if s.wswPressed = s.switch.pressed then s.setSwitch { s.switch with debounce := none }
      else s.setSwitch { s.switch with debounce := s.switch.debounce <|> some s.clock }

/-- DEBOUNCE_EXPIRY: the level has differed for 30 ms; a press or a release is recognised (R114). -/
def execDebounceExpiry (s : State) : Answered :=
  .next <| s.live fun s =>
    s.onExpiry s.switch.debounce (ms 30) fun _ s =>
      let pressed := !s.switch.pressed
      let s := s.setSwitch { s.switch with pressed := pressed, debounce := none }
      if pressed then s.onPress else s.onRelease

/-- PRESS_TIMER_EXPIRY: the press reaches 800 ms in TIMING and becomes long (R115). -/
def execPressTimerExpiry (s : State) : Answered :=
  .next <| s.live fun s =>
    if s.switch.press = .timing then
      s.onExpiry s.switch.pressTimer (ms 800) fun _ s => s.longPress
    else s

/-- The override level moved by 5 in the long-press direction, not past 0 or 1000 (R118). -/
def movedLevel (d : Option Travel) (level : Nat) : Nat :=
  match d with
  | some .up => min 1000 (level + 5)
  | some .down => level - 5
  | none => level

/-- LEVEL_STEP_EXPIRY: the level step timer's 20 ms period ends (R118). -/
def execLevelStepExpiry (s : State) : Answered :=
  .next <| s.live fun s =>
    s.onExpiry s.switch.levelStep (ms 20) fun at_ s =>
      (s.setSwitch { s.switch with
        levelStep := some at_, level := s.switch.level.map (movedLevel s.switch.travel) }).assertSwitch

/-- OVERRIDE_TIMER_EXPIRY: the override time has passed untouched and the override is cancelled (R120). -/
def execOverrideTimerExpiry (s : State) : Answered :=
  .next <| s.live fun s =>
    s.onExpiry s.switch.override (minutes (60 * s.img.overrideHours)) fun _ s => s.cancelOverride

end Sys2Proof.Machine
end

