-- ==== Sys2Proof/Machine/Dispatch.lean ====
section
/-! DEFINITION. The meaning of each command: one arm for each constructor of Instr. -/

namespace Sys2Proof.Machine

def exec (i : Instr) (s : State) : Host.Outcome State Fault Refusal :=
  match i with
  | .powerUp resetNHigh straps rowDominant wswHigh first => Sys2Proof.Machine.execPowerUp resetNHigh straps rowDominant wswHigh first s
  | .resetNAssert => Sys2Proof.Machine.execResetNAssert s
  | .resetNRelease straps first => Sys2Proof.Machine.execResetNRelease straps first s
  | .addressAttempt outcome => Sys2Proof.Machine.execAddressAttempt outcome s
  | .sclStallTimeout => Sys2Proof.Machine.execSclStallTimeout s
  | .configPollTimeout => Sys2Proof.Machine.execConfigPollTimeout s
  | .imageReadComplete bytes => Sys2Proof.Machine.execImageReadComplete bytes s
  | .listenTimerExpiry => Sys2Proof.Machine.execListenTimerExpiry s
  | .conversionStart => Sys2Proof.Machine.execConversionStart s
  | .sampleArrival result => Sys2Proof.Machine.execSampleArrival result s
  | .presencePoll spresHigh => Sys2Proof.Machine.execPresencePoll spresHigh s
  | .rearmTimerExpiry => Sys2Proof.Machine.execRearmTimerExpiry s
  | .fastTrackExpiry => Sys2Proof.Machine.execFastTrackExpiry s
  | .preRaiseStart id => Sys2Proof.Machine.execPreRaiseStart id s
  | .frontMissed id => Sys2Proof.Machine.execFrontMissed id s
  | .frontRecordRemoval id => Sys2Proof.Machine.execFrontRecordRemoval id s
  | .levellingTick => Sys2Proof.Machine.execLevellingTick s
  | .rampStep flt beforeMatch => Sys2Proof.Machine.execRampStep flt beforeMatch s
  | .occActiveEdge edge => Sys2Proof.Machine.execOccActiveEdge edge s
  | .edgeAgeOut => Sys2Proof.Machine.execEdgeAgeOut s
  | .vacancyTimerExpiry => Sys2Proof.Machine.execVacancyTimerExpiry s
  | .wswLevelChange high => Sys2Proof.Machine.execWswLevelChange high s
  | .debounceExpiry => Sys2Proof.Machine.execDebounceExpiry s
  | .pressTimerExpiry => Sys2Proof.Machine.execPressTimerExpiry s
  | .levelStepExpiry => Sys2Proof.Machine.execLevelStepExpiry s
  | .overrideTimerExpiry => Sys2Proof.Machine.execOverrideTimerExpiry s
  | .freshnessStale pos => Sys2Proof.Machine.execFreshnessStale pos s
  | .freshnessLost pos => Sys2Proof.Machine.execFreshnessLost pos s
  | .idlePoint => Sys2Proof.Machine.execIdlePoint s
  | .dominantTimeout straps => Sys2Proof.Machine.execDominantTimeout straps s
  | .lineRelease => Sys2Proof.Machine.execLineRelease s
  | .rxGapTimeout => Sys2Proof.Machine.execRxGapTimeout s
  | .rxFrameDiscard cause => Sys2Proof.Machine.execRxFrameDiscard cause s
  | .fullReport pos seq body straps => Sys2Proof.Machine.execFullReport pos seq body straps s
  | .deltaReport pos seq body straps => Sys2Proof.Machine.execDeltaReport pos seq body straps s
  | .frontNotice pos body straps => Sys2Proof.Machine.execFrontNotice pos body straps s
  | .serviceResultHeard pos straps => Sys2Proof.Machine.execServiceResultHeard pos straps s
  | .queryState req => Sys2Proof.Machine.execQueryState req s
  | .hold req => Sys2Proof.Machine.execHold req s
  | .release req => Sys2Proof.Machine.execRelease req s
  | .step req => Sys2Proof.Machine.execStep req s
  | .runToMatch req => Sys2Proof.Machine.execRunToMatch req s
  | .forceLevel req => Sys2Proof.Machine.execForceLevel req s
  | .forceCancel req => Sys2Proof.Machine.execForceCancel req s
  | .snapshotLoad req => Sys2Proof.Machine.execSnapshotLoad req s
  | .snapshotShift req => Sys2Proof.Machine.execSnapshotShift req s
  | .readEntry req => Sys2Proof.Machine.execReadEntry req s
  | .readFronts req => Sys2Proof.Machine.execReadFronts req s
  | .clearConditions req => Sys2Proof.Machine.execClearConditions req s
  | .restart req straps => Sys2Proof.Machine.execRestart req straps s
  | .unknownServiceRequest kind req => Sys2Proof.Machine.execUnknownServiceRequest kind req s
  | .forceTimerExpiry => Sys2Proof.Machine.execForceTimerExpiry s
  | .reportTimerExpiry => Sys2Proof.Machine.execReportTimerExpiry s
  | .attemptStart => Sys2Proof.Machine.execAttemptStart s
  | .arbitrationLoss => Sys2Proof.Machine.execArbitrationLoss s
  | .arbitrationWon => Sys2Proof.Machine.execArbitrationWon s
  | .garble straps => Sys2Proof.Machine.execGarble straps s
  | .frameComplete straps => Sys2Proof.Machine.execFrameComplete straps s
  | .deferTimeout => Sys2Proof.Machine.execDeferTimeout s
  | .transitionToDominant => Sys2Proof.Machine.execTransitionToDominant s
  | .returnToRecessive => Sys2Proof.Machine.execReturnToRecessive s
  | .characterEnd samples straps => Sys2Proof.Machine.execCharacterEnd samples straps s

end Sys2Proof.Machine
end

