-- ==== Sys2Proof/Machine/Step.lean ====
section
/-! DEFINITION. One step: the command at the front of the queue, or, on an empty queue, one unit of time. -/

namespace Sys2Proof.Machine

/-- On an empty queue the block idles and one clock unit passes (log 1); a part held in reset has no
timer running (R184). -/
def State.idle (s : State) : State := s.live fun s => s.advanceTo (s.clock + 1)

/-- One step of the block. -/
def step (s : State) : Host.Outcome State Fault Refusal :=
  match s.pending with
  | [] => .next s.idle
  | c :: rest => exec c { s with pending := rest }

/-- `s` with the command a table word spells put at the front of its queue; `s` unchanged where the word
spells none. -/
def State.withFetchWord (s : State) (nbits w : Nat) : State :=
  match decodeTableWord nbits w with
  | some c => { s with pending := c :: s.pending }
  | none => s

end Sys2Proof.Machine
end

