-- ==== Sys2Proof/Safety.lean ====
section
/-! DEFINITION. The terms the statements use: what two states have in common, the moments several
statements speak of, and what counts as a sound state of the station (the limits and agreements the
manual states of each block). -/

/-- The mask keeps this kind out of service (R88). -/
def Sys2Proof.Mask.hides (m : Sys2Proof.Mask) : Sys2Proof.Machine.ClaimKind → Bool
  | .switch => m.switch
  | .vacancy => m.vacancy
  | .front => m.front
  | _ => false

namespace Sys2Proof.Machine

/-! ## What a command leaves alone -/

/-- The parts of the state, for saying what a command leaves unchanged. -/
inductive Block where
  | pending | clock | running | pins | dim | startUp | conditions | sampler | rows | levelling
  | fronts | ranks | rampClock | occ | switch | line | rx | tx | service
  deriving DecidableEq, Repr

/-- Part `b` is the same in both states. -/
def Block.Same (s t : State) : Block → Prop
  | .pending => t.pending = s.pending
  | .clock => t.clock = s.clock
  | .running => t.running = s.running
  | .pins => t.pins = s.pins
  | .dim => t.dim = s.dim
  | .startUp => t.startUp = s.startUp
  | .conditions => t.conditions = s.conditions
  | .sampler => t.sampler = s.sampler
  | .rows => t.rows = s.rows
  | .levelling => t.levelling = s.levelling
  | .fronts => t.fronts = s.fronts
  | .ranks => t.ranks = s.ranks
  | .rampClock => t.rampClock = s.rampClock
  | .occ => t.occ = s.occ
  | .switch => t.switch = s.switch
  | .line => t.line = s.line
  | .rx => t.rx = s.rx
  | .tx => t.tx = s.tx
  | .service => t.service = s.service

/-- `t` is `s` outside the parts named. -/
def State.SameBut (s : State) (named : List Block) (t : State) : Prop :=
  ∀ b : Block, b ∉ named → b.Same s t

/-- Every condition but those named stands as it stood. -/
def State.ConditionsBut (s : State) (named : List Condition) (t : State) : Prop :=
  ∀ c : Condition, c ∉ named → t.latched c = s.latched c

/-- No output and no fault-sense state of any rank has moved. -/
def State.OutputsKept (s t : State) : Prop :=
  ∀ r : Rank,
    (t.ranks.get r).ramp.output = (s.ranks.get r).ramp.output
      ∧ (t.ranks.get r).ramp.assertedRun = (s.ranks.get r).ramp.assertedRun
      ∧ (t.ranks.get r).ramp.clearRun = (s.ranks.get r).ramp.clearRun
      ∧ (t.ranks.get r).ramp.faulted = (s.ranks.get r).ramp.faulted

/-- Each present rank's claim set has been changed by `f`, and no other rank's has. -/
def State.ClaimsBecome (s t : State) (f : Rank → Claims → Claims) : Prop :=
  ∀ r : Rank,
    (t.ranks.get r).claims
      = if s.present r then f r (s.ranks.get r).claims else (s.ranks.get r).claims

/-! ## Fields of a run of bytes -/

/-- Byte `i` of a run of bytes, as a number. -/
def octet (bs : List Byte) (i : Nat) : Nat := (bs.getD i 0).toNat

/-- Bit `k` of byte `i`. -/
def bitOf (bs : List Byte) (i k : Nat) : Bool := (bs.getD i 0).getLsbD k

/-- The two-byte field at `i`, high byte first (R140). -/
def field16 (bs : List Byte) (i : Nat) : Nat := octet bs i * 256 + octet bs (i + 1)

/-! ## Moments the statements speak of -/

/-- The station hears a whole frame from another sender: it runs, the line is not STUCK, the mode
neither ISLAND nor CONFIG, and it drives no frame itself (R127, R133, R135). -/
abbrev State.Hears (s : State) : Prop :=
  s.running = true ∧ s.line.state ≠ .stuck ∧ s.mode ≠ .island ∧ s.mode ≠ .config ∧ s.tx.flight = none

/-- The station at the end of a frame heard from another sender: ROW recessive and BUSY with the recessive
time starting, the receiver in SEARCH with nothing under assembly and the after-idle mark clear; a frame
abandoned before an idle point was discarded at this one's start edge (R126, R129, R131 to R133). -/
def State.heard (s : State) : State :=
  { s with
    line := { pulled := false, state := .busy, recessiveTime := some s.clock, dominantTime := none
              releaseTime := none }
    rx := { state := .search, char := none, afterIdle := false, frame := none, ownStart := false }
    conditions :=
      if s.rx.afterIdle = true ∧ (s.rx.frame.any fun f => !f.touched) = true then
        s.conditions ||| 0x0100#16
      else s.conditions }

/-- The scheduler once a frame from another sender has ended DEFER (R166). -/
def Tx.deferEnded (x : Tx) : Tx :=
  if x.contention = .defer then
    { x with contention := if x.queue.isEmpty then .txIdle else .waitIdle }
  else x

/-- The station once a frame from another sender has ended DEFER. -/
def State.deferOver (s : State) : State := { s with tx := s.tx.deferEnded }

/-- The result body of R149: tag, kind, outcome, flags (OVERRUN in bit 0, END in bit 1), data. -/
def resultOf (tag kind : Byte) (outcome : Nat) (overrun fin : Bool) (data : List Byte) : List Byte :=
  [tag, kind, byte outcome, byte ((if overrun then 1 else 0) + (if fin then 2 else 0))] ++ data

/-- The station once the result of a pending request has joined its queue (R160, R171, R172). -/
def State.answering (s : State) (p : Pending) (outcome : Nat) (fin : Bool) (data : List Byte) : State :=
  { s with
    service := { s.service with phase := .resultPending, pending := some p, overrun := false }
    tx := { s.tx with
      queue := insertEntry s.tx.queue
        { kind := .result (resultOf p.tag p.kind outcome s.service.overrun fin data)
          entryTime := s.now, attempts := 0, inFlight := false }
      contention := s.tx.contention.onJoin } }

/-- A step's result, of the pending request `p`, has joined the queue `x` held before, the service engine
having stood at `v`: DONE, the phase RESULT_PENDING, OVERRUN carried and cleared (R160, R171, R172,
R175). -/
def State.ResultJoins (s : State) (x : Tx) (v : Service) (p : Pending) : Prop :=
  s.service.phase = .resultPending ∧ s.service.pending = some p ∧ s.service.overrun = false
    ∧ s.tx.queue.filter QueueEntry.isResult
      = x.queue.filter QueueEntry.isResult
          ++ [{ kind := .result (resultOf p.tag p.kind 0 v.overrun false [])
                entryTime := s.now, attempts := 0, inFlight := false }]

/-- A step's result that the queue, `x` before, refuses is dropped at once and the phase is IDLE again
(R160, R172, R175). -/
def State.ResultDropped (s : State) (x : Tx) : Prop :=
  s.service.phase = .idle ∧ s.service.pending = none ∧ s.service.overrun = false
    ∧ s.tx.queue = x.queue

/-- The station takes a unicast request and its result can be queued: it hears, it is ACTIVE with no
parting report waiting, the phase is IDLE, and the target is its own position (R160, R169, R170). -/
abbrev State.Serves (s : State) (q : Request) : Prop :=
  s.Hears ∧ s.mode = .active ∧ s.tx.parting = false ∧ s.service.phase = .idle
    ∧ q.target.toNat = s.own ∧ s.own ≤ 62

/-- The station takes a unicast request whose result the queue refuses: it hears, it is in LISTEN or a
parting report waits, the phase is IDLE, and the target is its own position (R160, R169, R170, R190). -/
abbrev State.ServesUnanswered (s : State) (q : Request) : Prop :=
  s.Hears ∧ (s.mode = .listen ∨ (s.mode = .active ∧ s.tx.parting = true)) ∧ s.service.phase = .idle
    ∧ q.target.toNat = s.own ∧ s.own ≤ 62

/-- The station once a result composed at once has been refused and dropped (R160, R171, R172). -/
def State.unanswered (s : State) : State :=
  { s with service := { s.service with phase := .idle, pending := none, overrun := false } }

/-- The station takes a broadcast request (R169). -/
abbrev State.ServesAll (s : State) (q : Request) : Prop :=
  s.Hears ∧ s.mode ≠ .mute ∧ q.target = 63#8

/-- The parameters of a request of a known kind are wrong in number or out of range (R35, R148, R169). -/
def State.Malformed (s : State) (kind : Byte) (ps : List Byte) : Prop :=
  match kind.toNat, ps with
  | 5, [r, hi, lo, x] =>
    2 < r.toNat ∨ 1000 < hi.toNat * 256 + lo.toNat ∨ 1 < x.toNat
      ∨ (r = 0#8 ∧ s.present .a = false) ∨ (r = 1#8 ∧ s.present .b = false)
      ∨ (r = 2#8 ∧ s.present .c = false)
  | 6, [b, hi, lo] => badRanks b ∨ 1000 < hi.toNat * 256 + lo.toNat
  | 7, [b] => badRanks b
  | 10, [p] => 62 < p.toNat
  | 12, [_, _] => False
  | 5, _ => True
  | 6, _ => True
  | 7, _ => True
  | 10, _ => True
  | 12, _ => True
  | _, ps => ps ≠ []
where
  badRanks (b : Byte) : Prop :=
    b = 0#8 ∨ 7 < b.toNat ∨ (b.getLsbD 0 = true ∧ s.present .a = false)
      ∨ (b.getLsbD 1 = true ∧ s.present .b = false) ∨ (b.getLsbD 2 = true ∧ s.present .c = false)

/-- The pending request of a request answered at once. -/
def pendingOf (kind : Byte) (q : Request) : Pending := { kind := kind, tag := q.tag, restarts := false }

/-- Every block holds the values its own chapter gives for power-up and RESET_N, the free-running
timers and what the release reads apart (R17, R38, R61, R85, R103, R113, R122, R138, R168, R183, R184). -/
def State.PowerUpValues (s : State) : Prop :=
  s.clock = 0 ∧ s.dim = ⟨0, 0, 0⟩
    ∧ s.startUp.mode = .config ∧ s.startUp.image = none ∧ s.startUp.cause = none
    ∧ s.startUp.listen = none
    ∧ s.sampler.range = .low ∧ s.sampler.saturatedRun = 0 ∧ s.sampler.lowRun = 0
    ∧ s.sampler.settle = 0 ∧ s.sampler.present = true ∧ s.sampler.faultRun = 0
    ∧ s.sampler.ring = [] ∧ s.sampler.taken = 0 ∧ s.sampler.fastMean = none
    ∧ s.sampler.window = { size := 0, usable := 0, mean := none, valid := false, worst := none }
    ∧ s.rows.entries.length = 63
    ∧ (∀ p < 63, s.rows.entry p
        = { status := .absent, baseValid := false, lastSeq := 0, freshness := none
            record :=
              { mode := .active, reading := 0, readingState := .unavailable
                goal := ⟨none, none, none⟩, occupancy := .unknown, override := false, held := false
                conditions := 0, want := [] } })
    ∧ s.rows.want = []
    ∧ s.levelling
        = { tick := none, reading := 0, readingState := .unavailable, goal := ⟨none, none, none⟩
            liftFloor := ⟨0, 0, 0⟩, published := ⟨none, none, none⟩ }
    ∧ s.fronts.armed = true ∧ s.fronts.rearm = none ∧ s.fronts.serial = 0
    ∧ s.fronts.fastActive = false ∧ s.fronts.fastTimer = none ∧ s.fronts.table = []
    ∧ (∀ r : Rank,
        (s.ranks.get r).claims
            = { force := none, switch := none, vacancy := none, front := none, levelling := none
                fallback := none }
          ∧ (s.ranks.get r).inService = none ∧ (s.ranks.get r).ramp.output = 0
          ∧ (s.ranks.get r).ramp.target = 0 ∧ (s.ranks.get r).ramp.rule = none
          ∧ (s.ranks.get r).ramp.acc = 0 ∧ (s.ranks.get r).ramp.state = .still
          ∧ (s.ranks.get r).ramp.assertedRun = 0 ∧ (s.ranks.get r).ramp.clearRun = 0
          ∧ (s.ranks.get r).ramp.faulted = false)
    ∧ s.occ.state = .unknown ∧ s.occ.edges = []
    ∧ s.switch
        = { pressed := s.switch.pressed, debounce := none, press := .none, pressTimer := none, level := none
            travel := none, levelStep := none, override := none }
    ∧ s.line.state = .busy ∧ s.line.releaseTime = none
    ∧ s.rx.state = .search ∧ s.rx.char = none ∧ s.rx.afterIdle = false ∧ s.rx.frame = none
    ∧ s.tx
        = { queue := [], contention := .txIdle, flight := none, heldFull := false, seq := 0
            basis := none, lastDone := none, report := none, parting := false }
    ∧ s.service.phase = .idle ∧ s.service.pending = none ∧ s.service.overrun = false
    ∧ s.service.hold = .running ∧ s.service.cause = none ∧ s.service.matching = none
    ∧ s.service.force = none ∧ s.service.snapshot = none ∧ s.service.shiftIndex = 0

/-- No free-running timer runs either (R184). -/
def State.NoTimerRuns (s : State) : Prop :=
  s.sampler.conversion = none ∧ s.rampClock = none ∧ s.occ.vacancy = none
    ∧ s.line.recessiveTime = none ∧ s.line.dominantTime = none ∧ s.startUp.poll = none

/-- The part right after a release: CONFIG with the power-up values, the straps read, the free-running
timers started and the configuration read begun (R2, R93, R110, R138, R184, R186, R187). -/
def State.JustReleased (s : State) (straps : BitVec 6) (dominant : Bool) (first : AttemptOutcome) :
    Prop :=
  s.running = true ∧ s.PowerUpValues ∧ s.startUp.position = straps.toNat
    ∧ s.conditions = (if straps = 63#6 then 0x0040#16 else 0)
    ∧ s.startUp.read = readPhaseAfter first ∧ s.startUp.poll = some 0 ∧ s.startUp.lastAttempt = 0
    ∧ s.sampler.conversion = some 0 ∧ s.sampler.converting = some .low ∧ s.sampler.pollDue = true
    ∧ s.rampClock = some 0 ∧ s.occ.vacancy = some 0 ∧ s.line.pulled = dominant
    ∧ s.line.recessiveTime = (if dominant then none else some 0)
    ∧ s.line.dominantTime = (if dominant then some 0 else none)

/-- The end of CONFIG, from `s` at that moment to `t`, with image `i` and cause `c` (R55, R104, R107,
R114, R188, R189). -/
def State.ConfigEnds (s t : State) (i : Image) (c : Cause) : Prop :=
  t.startUp.image = some i ∧ t.startUp.cause = some c ∧ t.startUp.position = s.startUp.position
    ∧ t.conditions = (if c = .image then s.conditions else s.conditions ||| 0x1000#16)
    ∧ t.mode = (if s.own = 63 then .mute else if s.line.state = .stuck then .island else .listen)
    ∧ t.startUp.listen = (if t.mode = .listen then some s.clock else none)
    ∧ t.levelling.tick = some s.clock ∧ t.levelling.reading = 0
    ∧ t.levelling.readingState = .unavailable ∧ t.levelling.goal = ⟨none, none, none⟩
    ∧ t.levelling.liftFloor = ⟨0, 0, 0⟩
    ∧ (∀ r : Rank, t.levelling.published.get r = if i.present.get r then some i.fallback else none)
    ∧ (∀ r : Rank,
        if i.present.get r then
          (t.ranks.get r).claims
              = { noClaims with
                  fallback := some
                    { value := i.fallback, rule := { up := i.upRate, down := i.downRate } } }
            ∧ (t.ranks.get r).inService = some .fallback ∧ (t.ranks.get r).ramp.output = 0
            ∧ (t.ranks.get r).ramp.target = i.fallback
            ∧ (t.ranks.get r).ramp.rule = some { up := i.upRate, down := i.downRate }
            ∧ (t.ranks.get r).ramp.state = (if i.fallback = 0 then .still else .rising)
        else t.ranks.get r = rankPowerUp)
    ∧ t.occ = { s.occ with vacancy := if i.occUsed then s.occ.vacancy else none }
    ∧ t.switch = { s.switch with pressed := (s.pins.wswHigh == i.activeHigh) }
    ∧ s.SameBut [.startUp, .conditions, .levelling, .ranks, .occ, .switch] t

/-- The parameters of a rank, in the seven bytes from `i` of the configuration image (R188). -/
def rankBytes (bs : List Byte) (i : Nat) (p : RankParams) : Prop :=
  p.factor = field16 bs i ∧ p.full = field16 bs (i + 2) ∧ p.minimum = field16 bs (i + 4)
    ∧ (p.cutOff = true ↔ octet bs (i + 6) = 1)

/-- Byte `i` of the configuration image is a mask set (R143, R188). -/
def maskByte (bs : List Byte) (i : Nat) (m : Mask) : Prop :=
  m.switch = bitOf bs i 0 ∧ m.vacancy = bitOf bs i 1 ∧ m.front = bitOf bs i 2

/-- The image holds its fields at the bytes of R188's table. -/
def imageAt (bs : List Byte) (i : Image) : Prop :=
  i.target = field16 bs 3
    ∧ rankBytes bs 5 i.rank.a ∧ rankBytes bs 12 i.rank.b ∧ rankBytes bs 19 i.rank.c
    ∧ i.present.a = bitOf bs 26 0 ∧ i.present.b = bitOf bs 26 1 ∧ i.present.c = bitOf bs 26 2
    ∧ i.stepLimit = field16 bs 27 ∧ i.deadBand = octet bs 29
    ∧ i.upRate = field16 bs 30 ∧ i.downRate = field16 bs 32 ∧ i.fadeRate = field16 bs 34
    ∧ i.fallback = field16 bs 36 ∧ i.vacant = field16 bs 38 ∧ i.courtesy = field16 bs 40
    ∧ i.period = octet bs 42 ∧ i.window = octet bs 43 ∧ i.reach = octet bs 44 ∧ i.theta = octet bs 45
    ∧ i.leadMs = field16 bs 46 ∧ i.frontHold = octet bs 48
    ∧ (i.occUsed = true ↔ octet bs 49 = 1) ∧ (i.edgeFalling = true ↔ octet bs 50 = 1)
    ∧ i.edges = octet bs 51 ∧ i.vacancyMin = octet bs 52
    ∧ (i.activeHigh = true ↔ octet bs 53 = 1) ∧ i.overrideHours = octet bs 54
    ∧ maskByte bs 55 i.mask.a ∧ maskByte bs 56 i.mask.b ∧ maskByte bs 57 i.mask.c

/-- The checks of R188: 64 bytes, mark, version, CRC, every field in its range, the fill 0. -/
def imagePasses (bs : List Byte) : Prop :=
  bs.length = 64 ∧ field16 bs 0 = 0x5A3C ∧ octet bs 2 = 1 ∧ field16 bs 62 = (crcOf (bs.take 62)).toNat
    ∧ field16 bs 3 ≤ 32767
    ∧ (∀ i ∈ [5, 12, 19], field16 bs i ≤ 1000 ∧ 1 ≤ field16 bs (i + 2) ∧ field16 bs (i + 2) ≤ 32767
        ∧ field16 bs (i + 4) ≤ 1000 ∧ octet bs (i + 6) ≤ 1)
    ∧ octet bs 26 ≤ 7 ∧ 10 ≤ field16 bs 27 ∧ field16 bs 27 ≤ 500 ∧ octet bs 29 ≤ 100
    ∧ (∀ i ∈ [30, 32, 34], 1 ≤ field16 bs i ∧ field16 bs i ≤ 1000)
    ∧ (∀ i ∈ [36, 38, 40], field16 bs i ≤ 1000)
    ∧ 1 ≤ octet bs 42 ∧ octet bs 42 ≤ 10 ∧ octet bs 43 ∈ [8, 16, 32, 64]
    ∧ 1 ≤ octet bs 44 ∧ octet bs 44 ≤ 3 ∧ 20 ≤ octet bs 45 ∧ octet bs 45 ≤ 60
    ∧ field16 bs 46 ≤ 5000 ∧ 2 ≤ octet bs 48 ∧ octet bs 48 ≤ 30
    ∧ octet bs 49 ≤ 1 ∧ octet bs 50 ≤ 1 ∧ 1 ≤ octet bs 51 ∧ octet bs 51 ≤ 15
    ∧ 1 ≤ octet bs 52 ∧ octet bs 52 ≤ 60 ∧ octet bs 53 ≤ 1 ∧ 1 ≤ octet bs 54 ∧ octet bs 54 ≤ 8
    ∧ (∀ i ∈ [55, 56, 57], octet bs i ≤ 7) ∧ (∀ i ∈ [58, 59, 60, 61], octet bs i = 0)

/-- The fast mean lies at or below the darkening threshold of a valid window record with a mean of 400
or more (R62). -/
def darkAgainst (w : WindowRecord) (theta : Nat) (fast : Option Nat) : Bool :=
  match w.valid, w.mean, fast with
  | true, some slow, some y => decide (400 ≤ slow ∧ y ≤ slow * (100 - theta) / 100)
  | _, _, _ => false

/-- The FRONT claim on every present rank is the one R81 gives for the tracker's state, every other
claim standing as before. -/
def State.FrontClaimsFollow (s t : State) : Prop :=
  s.ClaimsBecome t fun r c =>
    { c with
      front := (t.frontValue r c).map fun v =>
        { value := v, rule := { up := s.img.upRate, down := s.img.downRate } } }

/-- The beginning of a RESTART at `s`, a station that drives nothing, to `t`, with the straps showing
`straps` (R18, R38, R55, R61, R85, R105, R113, R122, R129, R138, R168, R182, R183, R186, R188, R192).
Choices of the model it rests on: log 21, 34. -/
def State.RestartBegins (s t : State) (straps : BitVec 6) : Prop :=
  t.mode = (if straps = 63#6 then .mute else if s.line.state = .stuck then .island else .listen)
    ∧ t.startUp = { s.startUp with
        mode := t.mode, position := straps.toNat
        listen := if t.mode = .listen then some s.clock else none }
    ∧ t.pins = { s.pins with straps := straps } ∧ t.rx = s.rx.notDriving
    ∧ t.conditions
        = s.conditions
          ||| (if s.startUp.cause = some .noMemory ∨ s.startUp.cause = some .badImage then 0x1000#16 else 0)
          ||| (if straps = 63#6 then 0x0040#16 else 0)
    ∧ t.rows = rowTablePowerUp ∧ t.fronts = frontsPowerUp ∧ t.tx = txPowerUp
    ∧ t.service = { servicePowerUp with overrun := s.service.overrun }
    ∧ t.levelling.tick = some s.clock ∧ t.levelling.reading = 0
    ∧ t.levelling.readingState = .unavailable ∧ t.levelling.goal = ⟨none, none, none⟩
    ∧ t.levelling.liftFloor = ⟨0, 0, 0⟩
    ∧ (∀ r : Rank, t.levelling.published.get r
        = if s.present r = true ∧ (s.ranks.get r).ramp.faulted = false then some s.img.fallback else none)
    ∧ t.switch
        = { s.switch with
            level := none, travel := none, override := none, levelStep := none, pressTimer := none
            press := if s.switch.press = .long ∨ s.switch.press = .timing then .spent else s.switch.press }
    ∧ (s.ClaimsBecome t fun _ c =>
        { noClaims with
          vacancy := c.vacancy
          fallback := some
            { value := s.img.fallback, rule := { up := s.img.upRate, down := s.img.downRate } } })
    ∧ (∀ r : Rank, s.present r = true →
        (t.ranks.get r).inService
            = (if (s.ranks.get r).claims.vacancy.isSome ∧ (s.img.mask.get r).vacancy = false then
                some .vacancy else some .fallback)
          ∧ (t.ranks.get r).ramp.target
            = (match (s.img.mask.get r).vacancy, (s.ranks.get r).claims.vacancy with
               | false, some x => x.value
               | _, _ => s.img.fallback)
          ∧ (t.ranks.get r).ramp.state
            = motion (s.ranks.get r).ramp.output (t.ranks.get r).ramp.target)
    ∧ s.OutputsKept t
    ∧ s.SameBut
        [.startUp, .conditions, .rows, .fronts, .tx, .service, .levelling, .switch, .ranks, .rx, .pins] t

/-- What the front tracker holds after a levelling tick: the fast-track values of the fast mean while the
fast track is ACTIVE, and the pre-raise values of every PRE_RAISE record, formed from the reading and
floors the tick leaves (R49, R70, R80). -/
def State.FrontsFollow (s t : State) : Prop :=
  t.fronts.fastValue
      = (match s.fronts.fastActive, s.sampler.fastMean with
         | true, some y => PerRank.of fun r =>
             max (rawLevel s.img.target (s.img.rank.get r) y) (t.levelling.liftFloor.get r)
         | _, _ => s.fronts.fastValue)
    ∧ t.fronts.table = s.fronts.table.map (fun f =>
        if f.state = .preRaise then { f with preRaise := PerRank.of (t.preRaiseValue f.magnitude) } else f)
    ∧ t.fronts = { s.fronts with fastValue := t.fronts.fastValue, table := t.fronts.table }

/-- The published record has moved enough since the last report for a DELTA to fall due: a level by 20 or
to or from `none`, the reading by an eighth of the basis, or any other field at all (R158). -/
def Published.MovedFrom (p b : Published) : Prop :=
  (∃ r : Rank,
      match p.goal.get r, b.goal.get r with
      | none, none => False
      | some x, some y => y + 20 ≤ x ∨ x + 20 ≤ y
      | _, _ => True)
    ∨ (p.reading ≠ b.reading ∧ b.reading / 8 ≤ max p.reading b.reading - min p.reading b.reading)
    ∨ p.readingState ≠ b.readingState ∨ p.occupancy ≠ b.occupancy ∨ p.override ≠ b.override
    ∨ p.held ≠ b.held ∨ p.mode ≠ b.mode ∨ p.conditions ≠ b.conditions ∨ p.want ≠ b.want

/-- What a full levelling tick does whatever reading it finds, from `s` to `t`, the tick timer having
started at `start`: the window record, the timer's next period, the front tracker's values and claims,
the VACANCY value while VACANT, the comparison for a DELTA report, and the end of a step's tick (R13, R40,
R41, R70, R80, R81, R112, R158, R174). -/
def State.TickFollows (s t : State) (start : Nat) : Prop :=
  t.clock = max s.clock (start + 38400)
    ∧ t.sampler = { s.sampler with window := s.sampler.formWindow s.img.window }
    ∧ t.levelling.tick = some (start + 38400)
    ∧ s.FrontsFollow t
    ∧ (∀ r : Rank, s.present r = true →
        (t.ranks.get r).claims.front
            = (t.frontValue r (t.ranks.get r).claims).map (fun v =>
                { value := v, rule := { up := s.img.upRate, down := s.img.downRate } })
          ∧ (t.ranks.get r).claims.force = (s.ranks.get r).claims.force
          ∧ (t.ranks.get r).claims.switch = (s.ranks.get r).claims.switch
          ∧ (t.ranks.get r).claims.vacancy
            = (if s.occ.state = .vacant then
                some
                  { value := if s.neighbours.any (fun n => n.occupancy = .occupied) then s.img.courtesy
                             else s.img.vacant
                    rule := { up := s.img.fadeRate, down := s.img.fadeRate } }
               else (s.ranks.get r).claims.vacancy))
    ∧ (∀ r : Rank, s.present r = false →
        t.levelling.published.get r = none ∧ t.levelling.goal.get r = s.levelling.goal.get r
          ∧ t.ranks.get r = s.ranks.get r)
    ∧ (s.service.owed = false →
        t.service
            = (if s.service.hold = .stepping then
                { s.service with step := { s.service.step with tickDone := true } } else s.service)
          ∧ (s.mode = .active → (∀ d ∈ s.tx.lastDone, 500 ≤ (t.now - d).toNat) →
              (∀ b ∈ s.tx.basis, t.publishedRecord.MovedFrom b) →
            t.tx = (State.deltaDue { t with tx := s.tx }).tx)
          ∧ (s.mode ≠ .active ∨ (∃ d ∈ s.tx.lastDone, (t.now - d).toNat < 500)
                ∨ (∃ b ∈ s.tx.basis, ¬ t.publishedRecord.MovedFrom b) →
            t.tx = s.tx))
    ∧ s.OutputsKept t
    ∧ s.SameBut [.clock, .dim, .sampler, .levelling, .conditions, .fronts, .ranks, .tx, .service] t

/-- The station with `f` in flight for the head `e` of its queue and the start bit on ROW, which falls as
at a peer's transition: `u` is the station once a peer pulls ROW instead (R124, R161). -/
def State.sends (s u : State) (e : QueueEntry) (rest : List QueueEntry) (f : Flight) : State :=
  { u with
    line := { u.line with pulled := false }
    rx := { u.rx with ownStart := true }
    tx := { s.tx with
      queue := { e with inFlight := true } :: rest, contention := .arbitrating
      flight := some { f with driven := 1 } } }

/-- The frame in flight is sound: the bits driven are those read back right and at most one more, and the one
that read back wrong, after which no bit is driven, is recessive (R163, R164). -/
abbrev Flight.Sound (f : Flight) : Prop :=
  f.read ≤ f.driven ∧ f.driven ≤ f.read + 1 ∧ f.driven ≤ 11 * f.chars.length
    ∧ (f.wrong = true → f.driven = f.read + 1 ∧ f.bit f.read = true)

/-- `m` is the station at the moment at which it reads dominant a recessive bit of its frame `f`, one before
bit `n`: it has driven the frame on, ROW left to the other peers as it is, and stands at that bit's sample
point (R163, R164). -/
def State.ReadsWrong (s m : State) (f : Flight) (n : Nat) : Prop :=
  ∃ g ∈ (s.driveTo (f.start + 10 * n)).tx.flight, g.wrong = true ∧ g.read < n
    ∧ m = (s.driveTo (f.start + 10 * n)).advanceTo (f.start + 10 * g.read + 5)

/-- `m` is the station at the sample point of the first dominant bit of its frame `f`, one before bit `n`, that
it has still to read back, every bit up to it having read back right: there a fault on the line or in the
driver can make it read recessive (R163; log 25). -/
def State.FaultReads (s m : State) (f : Flight) (n : Nat) : Prop :=
  ∃ g ∈ s.driveNow.tx.flight, ∃ k < n, g.read ≤ k ∧ f.bit k = false ∧ (∀ j < k, g.read ≤ j → f.bit j = true)
    ∧ (∃ h ∈ (s.driveNow.driveTo (f.start + 10 * k + 5)).tx.flight, h.wrong = false)
    ∧ m = (s.driveNow.driveTo (f.start + 10 * k + 5)).advanceTo (f.start + 10 * k + 5)

/-- `m` is the station at the moment of a garble of its frame `f`: in SENDING a bit reads back wrong, and in
either state a fault misreads a dominant one (R163, R164; log 25). -/
def State.Garbles (s m : State) (f : Flight) : Prop :=
  (s.tx.contention = .arbitrating ∧ s.FaultReads m f 22)
    ∨ (s.tx.contention = .sending
        ∧ (s.ReadsWrong m f (11 * f.chars.length)
          ∨ ((∀ g ∈ (s.driveTo (f.start + 110 * f.chars.length)).tx.flight,
                g.wrong = true → 11 * f.chars.length ≤ g.read)
              ∧ s.FaultReads m f (11 * f.chars.length))))

/-- The queue with no entry in flight. -/
def landed (q : List QueueEntry) : List QueueEntry := q.map fun e => { e with inFlight := false }

/-- The claim of a kind. -/
def Claims.claim (c : Claims) : ClaimKind → Option Claim
  | .serviceForce => c.force
  | .switch => c.switch
  | .vacancy => c.vacancy
  | .front => c.front
  | .levelling => c.levelling
  | .fallback => c.fallback

/-! ## What results and the snapshot image show (R150 to R154) -/

/-- The two figures of the pair field at `i` (R150). -/
def pairAt (bs : List Byte) (i : Nat) : Nat × Nat :=
  (octet bs i * 16 + octet bs (i + 1) / 16, octet bs (i + 1) % 16 * 256 + octet bs (i + 2))

/-- A figure of `w` bits, all ones for none. -/
def shown (w : Nat) : Option Nat → Nat
  | none => 2 ^ w - 1
  | some x => x % 2 ^ w

/-- A claim's value in a pair field, 0xFFF when it is withdrawn. -/
def shownClaim (c : Option Claim) : Nat := shown 12 (c.map Claim.value)

/-- A timer's whole seconds to `limit` clock units, 0xFFFF when it is stopped. -/
def State.secondsShown (s : State) (limit : Nat) (t : Timer) : Nat :=
  shown 16 (t.map fun start => (limit - (s.clock - start)) / 192000)

/-- Bits 0 to 5 of byte `i` are the claim set of asserted claims (R143). -/
def ClaimsShown (bs : List Byte) (i : Nat) (c : Claims) : Prop :=
  bitOf bs i 0 = c.force.isSome ∧ bitOf bs i 1 = c.switch.isSome ∧ bitOf bs i 2 = c.vacancy.isSome
    ∧ bitOf bs i 3 = c.front.isSome ∧ bitOf bs i 4 = c.levelling.isSome
    ∧ bitOf bs i 5 = c.fallback.isSome

/-- Byte `i` has the claim in service in bits 0 to 2 and the mask set in bits 3 to 5 (R150, R154). -/
def ServiceShown (bs : List Byte) (i : Nat) (k : Option ClaimKind) (m : Mask) : Prop :=
  octet bs i % 8 = claimCode k ∧ bitOf bs i 3 = m.switch ∧ bitOf bs i 4 = m.vacancy
    ∧ bitOf bs i 5 = m.front

/-- The eight bytes from `i` are those of a rank in a QUERY STATE result (R150). -/
def State.RankShown (s : State) (bs : List Byte) (i : Nat) (r : Rank) : Prop :=
  pairAt bs i = (shown 12 (s.levelling.goal.get r), (s.ranks.get r).ramp.output % 4096)
    ∧ pairAt bs (i + 3)
        = (shownClaim (s.ranks.get r).claims.force, shownClaim (s.ranks.get r).claims.front)
    ∧ ClaimsShown bs (i + 6) (s.ranks.get r).claims
    ∧ bitOf bs (i + 6) 6 = (s.ranks.get r).ramp.faulted ∧ bitOf bs (i + 6) 7 = s.present r
    ∧ ServiceShown bs (i + 7) (s.ranks.get r).inService (s.img.mask.get r)
    ∧ octet bs (i + 7) / 64 = (s.ranks.get r).ramp.state.code

/-- The value of SWITCH or VACANCY for the station: that of the first rank that holds the claim (R150;
log 17). -/
def State.claimOfStation (s : State) (f : Claims → Option Claim) : Option Claim :=
  f s.ranks.a.claims <|> f s.ranks.b.claims <|> f s.ranks.c.claims

/-- The 39 bytes of a QUERY STATE result (R150); bit 7 of byte 0, which it does not name, is 0 (log 43). -/
def State.QueryShows (s : State) (bs : List Byte) : Prop :=
  bs.length = 39
    ∧ octet bs 0 = s.mode.code + 8 * s.service.hold.code + 32 * holdCauseCode s.service.cause
    ∧ octet bs 1 = s.levelling.readingState.code + 4 * worstCode s.sampler.window.worst
        + 32 * s.occ.state.code + (if s.switch.level.isSome then 128 else 0)
    ∧ field16 bs 2 = s.levelling.reading % 65536 ∧ field16 bs 4 = s.conditions.toNat
    ∧ field16 bs 6 = s.secondsShown (s.img.vacancyMin * 60 * 192000) s.occ.vacancy
    ∧ field16 bs 8 = s.secondsShown (s.img.overrideHours * 3600 * 192000) s.switch.override
    ∧ field16 bs 10 = s.secondsShown (600 * 192000) s.service.force
    ∧ pairAt bs 12
        = (shownClaim (s.claimOfStation Claims.switch), shownClaim (s.claimOfStation Claims.vacancy))
    ∧ s.RankShown bs 15 .a ∧ s.RankShown bs 23 .b ∧ s.RankShown bs 31 .c

/-- The seven bytes from `i` are the summary of record `f`; `now` is the local time (R84, R151). -/
def SummaryShown (bs : List Byte) (i : Nat) (now : Time) (f : FrontRecord) : Prop :=
  octet bs i = (f.origin + 64 * f.direction.code) % 256
    ∧ octet bs (i + 1) = (f.serial + 16 * f.state.code) % 256
    ∧ octet bs (i + 2) = f.magnitude % 256
    ∧ field16 bs (i + 3) = (f.pace.getD 0 + 16384 * (f.sightings.length - 1)) % 65536
    ∧ (∀ a, f.arrival = some a → f.state = .approaching ∨ f.state = .preRaise ∨ f.state = .missed →
        BitVec.ofNat 16 (field16 bs (i + 5))
          = BitVec.ofInt 16 (max (-32767) (min 32767 ((since a now).tdiv 10))))
    ∧ (f.arrival = none ∨ f.state = .watching ∨ f.state = .passed → field16 bs (i + 5) = 0x8000)

/-- The data of a READ FRONTS result: the count, then the summaries in the table's order (R151). -/
def State.FrontsShown (s : State) (bs : List Byte) : Prop :=
  bs.length = 1 + 7 * s.fronts.table.length ∧ octet bs 0 = s.fronts.table.length % 256
    ∧ ∀ i f, s.fronts.table[i]? = some f → SummaryShown bs (1 + 7 * i) s.now f

/-- The record `p` laid out from byte `i`, up to its want list (R145). -/
def RecordShown (bs : List Byte) (i : Nat) (p : Published) : Prop :=
  octet bs i = p.mode.code ∧ field16 bs (i + 1) = p.reading % 65536
    ∧ octet bs (i + 3) = p.readingState.code
    ∧ field16 bs (i + 4) = shown 16 p.goal.a ∧ field16 bs (i + 6) = shown 16 p.goal.b
    ∧ field16 bs (i + 8) = shown 16 p.goal.c
    ∧ octet bs (i + 10) = p.occupancy.code + (if p.override then 4 else 0) + (if p.held then 8 else 0)
    ∧ field16 bs (i + 11) = p.conditions.toNat ∧ octet bs (i + 13) = p.want.length % 256
    ∧ ∀ k q, p.want[k]? = some q → octet bs (i + 14 + k) = q % 256

/-- The tag and the value of a field in a pair of a DELTA REPORT (R143, R146). -/
def DeltaField.pair : DeltaField → Nat × Nat
  | .mode m => (1, m.code)
  | .reading x => (2, x % 65536)
  | .readingState r => (3, r.code)
  | .goalA g => (4, shown 16 g)
  | .goalB g => (5, shown 16 g)
  | .goalC g => (6, shown 16 g)
  | .occupancyFlags o override held =>
    (7, o.code + (if override then 4 else 0) + (if held then 8 else 0))
  | .conditions w => (8, w.toNat)

/-- The delta `d` laid out: the count, the pairs, the want count and the want positions (R146). -/
def DeltaShown (bs : List Byte) (d : Delta) : Prop :=
  octet bs 0 = d.fields.length % 256
    ∧ (∀ k f, d.fields[k]? = some f → (octet bs (1 + 3 * k), field16 bs (2 + 3 * k)) = f.pair)
    ∧ octet bs (1 + 3 * d.fields.length) = d.want.length % 256
    ∧ ∀ k q, d.want[k]? = some q → octet bs (2 + 3 * d.fields.length + k) = q % 256

/-- The front notice `n` laid out: identity, direction, magnitude, pace, the count and the sightings, each a
position and an age (R147). -/
def NoticeShown (bs : List Byte) (n : Notice) : Prop :=
  octet bs 0 = n.origin % 256 ∧ octet bs 1 = n.serial % 256 ∧ octet bs 2 = n.direction.code
    ∧ octet bs 3 = n.magnitude % 256 ∧ field16 bs 4 = n.pace.getD 0 % 65536
    ∧ octet bs 6 = n.sightings.length % 256
    ∧ ∀ k x, n.sightings[k]? = some x →
        octet bs (7 + 3 * k) = x.pos % 256 ∧ field16 bs (8 + 3 * k) = x.age % 65536

/-- The ten bytes from `i` are those of a rank's arbiter and generator in the image (R154). -/
def State.ImageRankShown (s : State) (bs : List Byte) (i : Nat) (r : Rank) : Prop :=
  (s.present r = false → ∀ k < 10, octet bs (i + k) = 0)
    ∧ (s.present r = true →
        pairAt bs i
            = (shownClaim (s.ranks.get r).claims.force, shownClaim (s.ranks.get r).claims.front)
          ∧ pairAt bs (i + 3)
            = ((s.ranks.get r).ramp.target % 4096, (s.ranks.get r).ramp.output % 4096)
          ∧ field16 bs (i + 6)
            = ((s.ranks.get r).ramp.acc + 2048 * (s.ranks.get r).ramp.assertedRun
                + 8192 * (s.ranks.get r).ramp.clearRun
                + (if (s.ranks.get r).ramp.faulted then 32768 else 0)) % 65536
          ∧ ClaimsShown bs (i + 8) (s.ranks.get r).claims
          ∧ octet bs (i + 8) / 64 = (s.ranks.get r).ramp.state.code
          ∧ ServiceShown bs (i + 9) (s.ranks.get r).inService (s.img.mask.get r)
          ∧ octet bs (i + 9) / 64 = 1)

/-- Bytes 0 to 178 of the snapshot image (R153). Bytes 0, 1, 133, 134, 137 and 164 are given whole, with 0 in
the bits that no field names (log 43). -/
def State.ImageFirstShown (s : State) (bs : List Byte) : Prop :=
  octet bs 0 = s.mode.code + 8 * s.service.hold.code + 32 * holdCauseCode s.service.cause
    ∧ octet bs 1 = s.line.state.code + 4 * s.rx.state.code + 16 * s.tx.contention.code
    ∧ field16 bs 2 = s.conditions.toNat
    ∧ (∀ i < 64, field16 bs (4 + 2 * i)
        = (match s.sampler.ring[i]? with
           | some x =>
             (x.code + (if x.range = .high then 4096 else 0) + 8192 * x.quality.code) % 65536
           | none => 0))
    ∧ octet bs 132 = s.sampler.taken % 256
    ∧ octet bs 133
        = ((if s.sampler.range = .high then 1 else 0) + (if s.sampler.present then 2 else 0)
            + 4 * s.sampler.settle + 16 * s.sampler.faultRun) % 256
    ∧ octet bs 134 = (s.sampler.saturatedRun + 4 * s.sampler.lowRun) % 256
    ∧ octet bs 135 = s.sampler.window.size % 256 ∧ octet bs 136 = s.sampler.window.usable % 256
    ∧ octet bs 137
        = worstCode s.sampler.window.worst + (if s.sampler.window.valid then 128 else 0)
    ∧ field16 bs 138 = shown 16 s.sampler.window.mean ∧ field16 bs 140 = shown 16 s.sampler.fastMean
    ∧ (∀ q ≤ 62, octet bs (142 + q / 4) / 4 ^ (q % 4) % 4 = (s.rows.entry q).status.code)
    ∧ octet bs 157 / 64 = 0
    ∧ (∀ i < 4, octet bs (158 + i) = shown 8 s.rows.want[i]?)
    ∧ field16 bs 162 = s.levelling.reading % 65536 ∧ octet bs 164 = s.levelling.readingState.code
    ∧ (∀ r i, (r, i) ∈ [(Rank.a, 165), (.b, 168), (.c, 171)] →
        pairAt bs i = (shown 12 (s.levelling.goal.get r),
          if s.present r then s.levelling.liftFloor.get r % 4096 else 0))
    ∧ pairAt bs 174 = (shown 12 s.levelling.published.a, shown 12 s.levelling.published.b)
    ∧ (∀ g ∈ s.levelling.published.c, g ≤ 1000 → field16 bs 177 = g)
    ∧ (s.levelling.published.c = none → field16 bs 177 = 0xFFF)

/-- Bytes 179 to 255 of the snapshot image (R154). Bytes 179, 182 and 188 are given whole, with 0 in the bits
that no field names (log 43). -/
def State.ImageSecondShown (s : State) (bs : List Byte) : Prop :=
  octet bs 179 = (s.occ.state.code + 4 * s.occ.edges.length) % 256
    ∧ field16 bs 180 = s.secondsShown (s.img.vacancyMin * 60 * 192000) s.occ.vacancy
    ∧ octet bs 182
        = (if s.switch.pressed then 1 else 0) + 2 * s.switch.press.code
            + (if s.switch.level.isSome then 8 else 0) + 16 * travelCode s.switch.travel
    ∧ pairAt bs 183 = (shown 12 s.switch.level, shownClaim (s.claimOfStation Claims.vacancy))
    ∧ field16 bs 186 = s.secondsShown (s.img.overrideHours * 3600 * 192000) s.switch.override
    ∧ octet bs 188
        = ((if s.fronts.armed then 1 else 0) + (if s.fronts.fastActive then 2 else 0)
            + 4 * s.fronts.serial) % 256
    ∧ pairAt bs 189
        = (shown 12 (s.fronts.rearm.map fun start => (s.clock - start) / 1920),
           shown 12 (s.fronts.fastTimer.map fun start =>
             (s.img.frontHold * 192000 - (s.clock - start)) / 1920))
    ∧ pairAt bs 192
        = (if s.fronts.fastActive = true ∧ s.present .a = true then s.fronts.fastValue.a % 4096 else 0xFFF,
           if s.fronts.fastActive = true ∧ s.present .b = true then s.fronts.fastValue.b % 4096 else 0xFFF)
    ∧ (s.fronts.fastActive = true → s.present .c = true → s.fronts.fastValue.c ≤ 1000 →
        field16 bs 195 = s.fronts.fastValue.c)
    ∧ (s.fronts.fastActive = false ∨ s.present .c = false → field16 bs 195 = 0xFFF)
    ∧ (∀ i < 4,
        match s.fronts.table[i]? with
        | some f => SummaryShown bs (197 + 7 * i) s.now f
        | none => (bs.drop (197 + 7 * i)).take 7 = [0, 0x70#8, 0, 0, 0, 0, 0])
    ∧ s.ImageRankShown bs 225 .a ∧ s.ImageRankShown bs 235 .b ∧ s.ImageRankShown bs 245 .c
    ∧ octet bs 255 = ((bs.take 255).map BitVec.toNat).sum % 256

/-! ## Sound states -/

/-- The want-full list holds at most 4 distinct positions 0 to 62 (R27). -/
abbrev State.WantInv (s : State) : Prop :=
  s.rows.want.length ≤ 4 ∧ s.rows.want.Nodup ∧ ∀ p ∈ s.rows.want, p ≤ 62

/-- The table has 63 slots, and the slot at the own position is ABSENT with the empty record (R20). -/
abbrev State.TableInv (s : State) : Prop :=
  s.rows.entries.length = 63 ∧ s.rows.entry s.own = emptyEntry

/-- The sampler's counts stay in their ranges, a run that has reached its limit having been set to 0,
and the ring holds `samples_taken` samples (R5 to R7, R10, R11). -/
abbrev State.SamplerInv (s : State) : Prop :=
  s.sampler.ring.length = s.sampler.taken ∧ s.sampler.taken ≤ 64 ∧ s.sampler.saturatedRun ≤ 1
    ∧ s.sampler.lowRun ≤ 7 ∧ s.sampler.settle ≤ 2 ∧ s.sampler.faultRun ≤ 4

/-- In CONFIG there is no image and, beside the sampler, the line side and the start-up controller,
every block still holds its power-up values; outside CONFIG there is an image and no configuration read
goes on (R86, R184, R187, R188). The power-up values include the fast-track value 0 (log 34) and the
debounced level RELEASED (log 36), which the spec does not give. -/
abbrev State.ConfigInv (s : State) : Prop :=
  (s.startUp.image = none ↔ s.mode = .config)
    ∧ (s.mode ≠ .config → s.startUp.read = .idle ∧ s.startUp.poll = none)
    ∧ (s.mode = .config →
        s.service = servicePowerUp ∧ s.switch = switchPowerUp ∧ s.fronts = frontsPowerUp
          ∧ s.levelling = levellingPowerUp ∧ s.rows = rowTablePowerUp ∧ s.tx = txPowerUp
          ∧ s.occ.state = .unknown ∧ s.occ.edges = [] ∧ s.sampler.window = emptyWindow
          ∧ s.startUp.listen = none)

/-- The timers that belong to a mode run in it and stand outside it, and ISLAND and a STUCK line go
together (R40, R127, R157, R189 to R192). -/
abbrev State.ModeInv (s : State) : Prop :=
  (s.startUp.listen.isSome = true ↔ s.mode = .listen) ∧ (s.tx.report.isSome = true ↔ s.mode = .active)
    ∧ (s.levelling.tick = none ↔ s.mode = .config)
    ∧ (s.mode = .island → s.line.state = .stuck)
    ∧ (s.line.state = .stuck → s.mode = .config ∨ s.mode = .island ∨ s.mode = .mute)

/-- The hold cause is none exactly when the hold state is not HELD (R173), and a match is recorded
exactly in RUN_TO_MATCH (R176). The step record counts 0 to 10 ramp steps, below 10 while the step goes on
and none before its tick (R174). -/
abbrev State.HoldInv (s : State) : Prop :=
  (s.service.cause.isSome = true ↔ s.service.hold = .held)
    ∧ (s.service.matching.isSome = true ↔ s.service.hold = .runToMatch)
    ∧ s.service.step.count ≤ 10
    ∧ (s.service.hold = .stepping → s.service.step.count < 10
        ∧ (s.service.step.tickDone = false → s.service.step.count = 0))

/-- A pending request stands exactly outside IDLE (R170); a unicast step under way, or its result owed, but
not both, is the pending STEP in EXECUTING (R174, R175); a waiting restart is a pending RESTART (R182). -/
abbrev State.PhaseInv (s : State) : Prop :=
  (s.service.pending = none ↔ s.service.phase = .idle)
    ∧ ((s.service.owed = true ∨ (s.service.hold = .stepping ∧ s.service.step.unicast = true)) →
        s.service.phase = .executing ∧ s.service.pending.map Pending.kind = some 4#8)
    ∧ (s.service.owed = true → s.service.hold = .stepping → s.service.step.unicast = false)
    ∧ (s.service.restartWaits = true → s.service.pending.map Pending.kind = some 13#8)

/-- How many entries of the queue are of a sort. -/
def Tx.count (x : Tx) (p : QueueEntry → Bool) : Nat := (x.queue.filter p).length

/-- One result waits in the queue in RESULT_PENDING, and none in another phase (R170, R172). -/
abbrev State.ResultInv (s : State) : Prop :=
  s.tx.count QueueEntry.isResult = if s.service.phase = .resultPending then 1 else 0

/-- Outside ACTIVE nothing is queued or driven and no parting report waits (R155, R167). -/
abbrev State.SilentInv (s : State) : Prop :=
  s.mode = .active ∨
    (s.tx.queue = [] ∧ s.tx.contention = .txIdle ∧ s.tx.flight = none ∧ s.tx.parting = false)

/-- The queue holds at most one report marker and two front notices, one entry is in flight exactly
while a frame is, and the entries stand in order of class (R155); a FULL is held over only while a marker
is in flight with a DELTA REPORT (R156, R162), and a parting report, a FULL marker, stands alone in the queue
(R137, R167). -/
abbrev State.QueueInv (s : State) : Prop :=
  s.tx.count QueueEntry.isMarker ≤ 1 ∧ s.tx.count QueueEntry.isNotice ≤ 2
    ∧ s.tx.count QueueEntry.inFlight = (if s.tx.flight.isSome then 1 else 0)
    ∧ (s.tx.queue.map fun e => e.kind.frameClass).Pairwise (· ≤ ·)
    ∧ (s.tx.heldFull = true → s.tx.markerInFlight = true ∧ ∀ f ∈ s.tx.flight, f.asFull = false)
    ∧ (s.tx.parting = true → s.tx.queue.map QueueEntry.kind = [.full])

/-- A frame is in flight exactly in ARBITRATING and SENDING, TX_IDLE has an empty queue and WAIT_IDLE
has not (R161, R163 to R166, the table of contention states). -/
abbrev State.ContentionInv (s : State) : Prop :=
  (s.tx.flight.isSome = true ↔ s.tx.contention = .arbitrating ∨ s.tx.contention = .sending)
    ∧ (s.tx.contention = .txIdle → s.tx.queue = []) ∧ (s.tx.contention = .waitIdle → s.tx.queue ≠ [])

/-- The frame in flight is sound; in SENDING its sync and access characters have read back right (R163); and
the receiver's `driving` is set only while the station drives (R129). -/
abbrev State.FlightInv (s : State) : Prop :=
  (∀ f ∈ s.tx.flight, f.Sound ∧ (s.tx.contention = .sending → 22 ≤ f.read))
    ∧ ((s.rx.frame.any fun g => g.driving) = true → (s.tx.flight.any fun f => !f.wrong) = true)

/-- The characters taken so far that the running CRC of a frame covers (R129). -/
def RxFrame.taken (f : RxFrame) : List Byte :=
  f.access.toList ++ f.kindSeq.toList ++ (f.length.map byte).toList ++ f.body

/-- The frame under assembly fits the receiver state: HEADER before its length, BODY with its header whole and
body characters still to come, CHECK with its body whole; its kind, class and position agree, its length is at
most 48, its CRC is that of the characters taken, and it is driven only if touched (R129 to R131). -/
abbrev RxFrame.Sound (f : RxFrame) (st : RxState) : Prop :=
  st ≠ .search ∧ (f.driving = true → f.touched = true) ∧ f.crc = crcOf f.taken
    ∧ (∀ a ∈ f.access, ∀ k ∈ f.kindSeq,
        headerFits (k.toNat / 16) (a.toNat / 64) (a.toNat % 64) = some true)
    ∧ (∀ n ∈ f.length, n ≤ 48)
    ∧ (st = .header →
        f.length = none ∧ f.body = [] ∧ f.check = none ∧ (f.access = none → f.kindSeq = none))
    ∧ (st = .body ∨ st = .check → f.access.isSome = true ∧ f.kindSeq.isSome = true)
    ∧ (st = .body → f.check = none ∧ ∃ n ∈ f.length, f.body.length < n)
    ∧ (st = .check → f.length = some f.body.length)

/-- The receiver is in SEARCH exactly when no frame is under assembly, and a frame under assembly fits its
state (R129 to R131). -/
abbrev State.ReceiverInv (s : State) : Prop :=
  (s.rx.frame = none ↔ s.rx.state = .search) ∧ ∀ f ∈ s.rx.frame, f.Sound s.rx.state

/-- The line monitor's times go with ROW: it measures recessive time, times a release or calls the line
IDLE only while ROW reads recessive, and in reset it times nothing (R126, R128, R184). -/
abbrev State.LineInv (s : State) : Prop :=
  (s.line.recessiveTime.isSome = true ∨ s.line.releaseTime.isSome = true ∨ s.line.state = .idle →
      s.rowLow = false)
    ∧ (s.running = false →
        s.line.recessiveTime = none ∧ s.line.releaseTime = none ∧ s.line.state ≠ .idle)

/-- A record of the front table is sound: 1 to 4 sightings at distinct positions (R65). -/
abbrev FrontRecord.Sound (f : FrontRecord) : Prop :=
  1 ≤ f.sightings.length ∧ f.sightings.length ≤ 4 ∧ (f.sightings.map Sighting.pos).Nodup

/-- The front table holds at most 4 records in order of identity, no two of one, each sound (R65, R84). -/
abbrev State.FrontsInv (s : State) : Prop :=
  s.fronts.table.length ≤ 4 ∧ (s.fronts.table.map fun f => (f.origin, f.serial)).Nodup
    ∧ s.fronts.table.Pairwise (fun f g => f.idBefore g = true) ∧ ∀ f ∈ s.fronts.table, f.Sound

/-- Both rates of a ramp rule are 1 to 1000 per mille per second (R87). -/
abbrev Rule.InRange (u : Rule) : Prop := 1 ≤ u.up ∧ u.up ≤ 1000 ∧ 1 ≤ u.down ∧ u.down ≤ 1000

/-- A claim asks for a level 0 to 1000 at rates in range (R86, R87). -/
abbrev claimInRange (c : Option Claim) : Prop := ∀ x ∈ c, x.value ≤ 1000 ∧ x.rule.InRange

/-- Every claim of a claim set is in range. -/
abbrev Claims.InRange (c : Claims) : Prop :=
  claimInRange c.force ∧ claimInRange c.switch ∧ claimInRange c.vacancy ∧ claimInRange c.front
    ∧ claimInRange c.levelling ∧ claimInRange c.fallback

/-- A level that may be none is 0 to 1000. -/
abbrev levelInRange (l : Option Nat) : Prop := ∀ x ∈ l, x ≤ 1000

/-- Three things, one a rank, all have a property. -/
abbrev PerRank.Each {α : Type} (p : PerRank α) (P : α → Prop) : Prop := P p.a ∧ P p.b ∧ P p.c

/-- The levels and rates of an image are in range (R188). -/
abbrev imageInRange (i : Image) : Prop :=
  i.fallback ≤ 1000 ∧ i.vacant ≤ 1000 ∧ i.courtesy ≤ 1000
    ∧ 1 ≤ i.upRate ∧ i.upRate ≤ 1000 ∧ 1 ≤ i.downRate ∧ i.downRate ≤ 1000
    ∧ 1 ≤ i.fadeRate ∧ i.fadeRate ≤ 1000 ∧ PerRank.Each i.rank (fun p => p.minimum ≤ 1000)

/-- A generator's figures are in range: output, target, rates, a fraction below 50 and runs up to 3
(R93, R94, R99). -/
abbrev Ramp.InRange (g : Ramp) : Prop :=
  g.output ≤ 1000 ∧ g.target ≤ 1000 ∧ (∀ u ∈ g.rule, u.InRange) ∧ g.acc < 50 ∧ g.assertedRun ≤ 3
    ∧ g.clearRun ≤ 3

/-- Every level and rate the station holds is in range: the image's, the neighbours' goals, its own
goals and floors, the front tracker's values, the override level, the claims and the generators
(R86, R87, R93, R94). -/
abbrev State.LevelInv (s : State) : Prop :=
  imageInRange s.img
    ∧ (∀ e ∈ s.rows.entries, PerRank.Each e.record.goal levelInRange)
    ∧ PerRank.Each s.levelling.goal levelInRange ∧ PerRank.Each s.levelling.liftFloor (· ≤ 1000)
    ∧ PerRank.Each s.fronts.fastValue (· ≤ 1000)
    ∧ (∀ f ∈ s.fronts.table, PerRank.Each f.preRaise (· ≤ 1000))
    ∧ levelInRange s.switch.level
    ∧ PerRank.Each s.ranks (fun u => u.claims.InRange ∧ u.ramp.InRange)

/-- A rank's unit as R102 gives it for an absent rank: no claim, none in service, output, target and
fraction 0, STILL and not faulted. -/
abbrev RankUnit.Idle (u : RankUnit) : Prop :=
  u.claims = noClaims ∧ u.inService = none ∧ u.ramp.output = 0 ∧ u.ramp.target = 0 ∧ u.ramp.acc = 0
    ∧ u.ramp.state = .still ∧ u.ramp.faulted = false

/-- Each present rank has exactly one of LEVELLING and FALLBACK asserted and a claim in service, and
each other rank is idle; in CONFIG every rank is (R90, R102). -/
abbrev State.BaseInv (s : State) : Prop :=
  ∀ r : Rank,
    if s.present r then
      ((s.ranks.get r).claims.levelling.isSome = true ↔ (s.ranks.get r).claims.fallback = none)
        ∧ (s.ranks.get r).inService.isSome = true
    else (s.ranks.get r).Idle

/-- The generators stand frozen: HELD, or STEPPING before the step's tick has completed (R96). -/
def Service.freezes (v : Service) : Bool :=
  v.hold == .held || (v.hold == .stepping && !v.step.tickDone)

/-- Each present rank's ramp state is FROZEN while the hold freezes it and otherwise the comparison of
target and output (R93, R96). -/
abbrev State.RampInv (s : State) : Prop :=
  ∀ r : Rank, s.present r = true →
    (s.ranks.get r).ramp.state
      = if s.service.freezes then .frozen
        else motion (s.ranks.get r).ramp.output (s.ranks.get r).ramp.target

/-- While the hold state lets the arbiters choose, each present rank's claim in service is the asserted
unmasked claim of highest priority, and the generator has its value and rule (R89, R90). -/
abbrev State.ChoiceInv (s : State) : Prop :=
  s.service.choosing = true → ∀ r : Rank, s.present r = true →
    ((s.ranks.get r).claims.chosen (s.img.mask.get r)).map
        (fun x => (x.1, x.2.value, x.2.rule))
      = (match (s.ranks.get r).inService, (s.ranks.get r).ramp.rule with
         | some k, some rule => some (k, (s.ranks.get r).ramp.target, rule)
         | _, _ => none)

/-- The switch unit's timers go with its press state and override: the press timer runs in TIMING, the
level step timer in LONG, the override timer while ACTIVE; a press stands only while PRESSED (R115 to
R121). -/
abbrev State.SwitchInv (s : State) : Prop :=
  (s.switch.pressTimer.isSome = true ↔ s.switch.press = .timing)
    ∧ (s.switch.levelStep.isSome = true ↔ s.switch.press = .long)
    ∧ (s.switch.press = .long → s.switch.level.isSome = true)
    ∧ (s.switch.press ≠ .none → s.switch.pressed = true)
    ∧ (s.switch.override.isSome = true ↔ s.switch.level.isSome = true)

/-- Each present rank's claims are what their owners' state says: VACANCY while VACANT (R111), SWITCH
with the override level (R119), FRONT with the value of R81, LEVELLING with the goal (R53), FALLBACK
with the fallback level (R54); and the force timer runs while a rank is forced (R177). -/
abbrev State.OwnerInv (s : State) : Prop :=
  (∀ r : Rank, s.present r = true →
      ((s.ranks.get r).claims.vacancy.isSome = true ↔ s.occ.state = .vacant)
        ∧ (s.ranks.get r).claims.switch
            = s.switch.level.map (fun v =>
                { value := v
                  rule := if s.switch.press = .long then { up := 250, down := 250 }
                          else { up := 1000, down := 1000 } })
        ∧ (s.ranks.get r).claims.front
            = (s.frontValue r (s.ranks.get r).claims).map (fun v =>
                { value := v, rule := { up := s.img.upRate, down := s.img.downRate } })
        ∧ (∀ x ∈ (s.ranks.get r).claims.levelling,
            s.levelling.goal.get r = some x.value
              ∧ x.rule = { up := s.img.upRate, down := s.img.downRate })
        ∧ (∀ x ∈ (s.ranks.get r).claims.fallback,
            x = { value := s.img.fallback, rule := { up := s.img.upRate, down := s.img.downRate } }))
    ∧ (s.service.force.isSome = true ↔ s.anyForced = true)

end Sys2Proof.Machine
end

