-- ==== Sys2Proof/WellFormed.lean ====
section
/-! DEFINITION. Which command terms describe an event the spec knows: counts, positions and kind codes
inside the ranges of their rules. The machine is total on ill-formed terms too (log 32). -/

namespace Sys2Proof

/-- A frame of a station comes from positions 0 to 62 (R140). -/
def stationPosition (p : BitVec 6) : Bool := p != 63#6

/-- A body holds at most 48 characters (R140). -/
def bodyFits (b : List Byte) : Bool := b.length ≤ 48

/-- A request whose body is not malformed: at most four parameters and a target of 0 to 63 (R148). -/
def Request.wf (r : Request) : Bool := r.params.length ≤ 4 && r.target.toNat ≤ 63

/-- Well-formed commands. -/
def Instr.wf : Instr → Bool
  | .imageReadComplete bytes => bytes.length == 64
  | .freshnessStale p | .freshnessLost p => stationPosition p
  | .fullReport p _ b _ | .deltaReport p _ b _ | .frontNotice p b _ => stationPosition p && bodyFits b
  | .serviceResultHeard p _ => stationPosition p
  | .queryState r | .hold r | .release r | .step r | .runToMatch r | .forceLevel r
  | .forceCancel r | .snapshotLoad r | .snapshotShift r | .readEntry r | .readFronts r
  | .clearConditions r | .restart r _ => r.wf
  | .unknownServiceRequest k r => r.wf && (k.toNat == 0 || 13 < k.toNat)
  | .powerUp _ _ _ _ _ | .resetNAssert | .resetNRelease _ _ | .addressAttempt _
  | .sclStallTimeout | .configPollTimeout | .listenTimerExpiry | .conversionStart
  | .sampleArrival _ | .presencePoll _ | .rearmTimerExpiry | .fastTrackExpiry
  | .preRaiseStart _ | .frontMissed _ | .frontRecordRemoval _ | .levellingTick
  | .rampStep _ _ | .occActiveEdge _ | .edgeAgeOut | .vacancyTimerExpiry
  | .wswLevelChange _ | .debounceExpiry | .pressTimerExpiry | .levelStepExpiry
  | .overrideTimerExpiry | .idlePoint | .dominantTimeout _ | .lineRelease
  | .rxGapTimeout | .rxFrameDiscard _ | .forceTimerExpiry | .reportTimerExpiry
  | .attemptStart | .arbitrationLoss | .arbitrationWon | .garble _ | .frameComplete _
  | .deferTimeout | .transitionToDominant | .returnToRecessive | .characterEnd _ _ => true

end Sys2Proof
end

