-- ==== Sys2Proof/Certificates/Slice0/Obligations.lean ====
section
/-! DEFINITION. The statements about the station. Numbers of clock units are written out: 192 are one
millisecond, 192,000 one second, 10 one bit time, 110 one character of a frame. Three conventions of the
model appear in many of them: a timer is held as the instant it started (log 4); a command that a timer's
expiry brings moves the clock on to that expiry if it is not there yet (log 2), written `advanceTo`; and
an operand `straps` is what the pins then show (log 6, log 7). -/

open Sys2Proof Sys2Proof.Machine

/-! ## The block and its queue -/

/-- A step is the command at the front of the queue, executed with the queue's rest.
Choices of the model it rests on: log 1. -/
def Obligations.StepRunsFrontCommand : Prop :=
  ∀ (s : State) (c : Instr) (rest : List Instr), s.pending = c :: rest →
    step s = exec c { s with pending := rest }

/-- On an empty queue one clock unit passes in a running part, and nothing happens in one held in reset
(the model's choice, log 1); passing time moves the clock, and the dimming pins take the outputs once a
500 us period begins (R98), and nothing else. That the periods begin at the multiples of 500 us counted
from the release is the model's choice (log 11): R98 gives the period and no phase.
Choices of the model it rests on: log 1, 11. -/
def Obligations.EmptyQueueOnlyPassesTime : Prop :=
  ∀ (s : State) (t : Nat),
    (s.pending = [] →
      step s = .next (if s.running = true then s.advanceTo (s.clock + 1) else s))
    ∧ (s.advanceTo t).clock = max s.clock t
    ∧ (s.advanceTo t).dim
        = (if s.clock / 96 = max s.clock t / 96 then s.dim
           else ⟨s.ranks.a.ramp.output, s.ranks.b.ramp.output, s.ranks.c.ramp.output⟩)
    ∧ s.SameBut [.clock, .dim] (s.advanceTo t)

/-- Every command answers a next state, whatever the state, and leaves the waiting commands alone; while
the part is held in reset a command other than its end changes nothing but the levels the pins show
(R184). That no command stops the machine rests on log 29 and log 3, and that a command takes nothing from
the queue on log 1.
Choices of the model it rests on: log 1, 3, 6, 29. -/
def Obligations.EveryCommandAnswersAndKeepsQueue : Prop :=
  ∀ (c : Instr) (s : State),
    ∃ t, exec c s = .next t ∧ t.pending = s.pending
      ∧ (s.running = false → c ≠ .resetNAssert → (∀ r d w w' f, c ≠ .powerUp r d w w' f) →
          (∀ d f, c ≠ .resetNRelease d f) →
        s.SameBut [.pins, .line] t ∧ t.line = { s.line with pulled := t.line.pulled })

/-! ## Start-up and station modes -/

/-- RESET_N asserted, and power-up with RESET_N low, give every block its power-up values with no timer
running; the release, and power-up with RESET_N high, start CONFIG from the same values (R184).
That an attempt and its outcome fall at one instant, the first at the release, is log 10.
Choices of the model it rests on: log 6 to 10. -/
def Obligations.ResetGivesPowerUpValues : Prop :=
  ∀ (s : State) (straps : BitVec 6) (row wsw : Bool) (first : AttemptOutcome),
    (∃ t, exec .resetNAssert s = .next t ∧ t.running = false ∧ t.PowerUpValues ∧ t.NoTimerRuns
      ∧ t.conditions = 0 ∧ t.pins = s.pins ∧ t.line.pulled = s.line.pulled)
    ∧ (∃ t, exec (.powerUp false straps row wsw first) s = .next t ∧ t.running = false
      ∧ t.PowerUpValues ∧ t.NoTimerRuns ∧ t.conditions = 0 ∧ t.pins.straps = straps
      ∧ t.pins.wswHigh = wsw ∧ t.line.pulled = row)
    ∧ (∃ t, exec (.resetNRelease straps first) s = .next t
      ∧ t.JustReleased straps s.line.pulled first ∧ t.pins = { s.pins with straps := straps })
    ∧ (∃ t, exec (.powerUp true straps row wsw first) s = .next t ∧ t.JustReleased straps row first
      ∧ t.pins.straps = straps ∧ t.pins.wswHigh = wsw)

/-- The configuration read goes on: the next attempt 1 ms after the last while the poll timer is below
100 ms, and a stall of 10 ms counts as a failed attempt (R187).
Choices of the model it rests on: log 2, 10. -/
def Obligations.ConfigurationReadTriesAgain : Prop :=
  ∀ (s : State) (outcome : AttemptOutcome) (poll : Nat), s.running = true → s.startUp.poll = some poll →
    (s.startUp.read = .waiting → max s.clock (s.startUp.lastAttempt + 192) < poll + 19200 →
      exec (.addressAttempt outcome) s
        = .next { s.advanceTo (s.startUp.lastAttempt + 192) with
            startUp := { s.startUp with
              read := readPhaseAfter outcome
              lastAttempt := max s.clock (s.startUp.lastAttempt + 192) } })
    ∧ (s.startUp.read = .stalled →
      exec .sclStallTimeout s
        = .next { s.advanceTo (s.startUp.lastAttempt + 1920) with
            startUp := { s.startUp with read := .waiting } })
    ∧ (s.startUp.read = .reading → max s.clock (s.startUp.lastAttempt + 1920) < poll + 19200 →
      exec .sclStallTimeout s
        = .next { s.advanceTo (s.startUp.lastAttempt + 1920) with
            startUp := { s.startUp with read := .waiting } })

/-- CONFIG ends with the image read, or with the defaults when its check fails or no image came, and every
block takes its entry to LISTEN from CONFIG (R187 to R189). An image passes with the mark, the version,
the CRC and every field in its range, and holds each field at its bytes; the defaults are those of R188's
table. That a stall inside the read is timed from the last attempt is log 10.
Choices of the model it rests on: log 2, 10, 15. -/
def Obligations.ConfigEndsWithImageOrDefaults : Prop :=
  ∀ (s : State) (bytes : List Byte) (poll : Nat),
    (s.running = true → s.service.hold = .running → (∀ r : Rank, (s.ranks.get r).Idle) →
        s.startUp.poll = some poll →
      (s.startUp.read = .reading → ∀ i, readImage bytes = some i →
        ∃ t, exec (.imageReadComplete bytes) s = .next t ∧ s.ConfigEnds t i .image)
      ∧ (s.startUp.read = .reading → readImage bytes = none →
        ∃ t, exec (.imageReadComplete bytes) s = .next t ∧ s.ConfigEnds t defaultImage .badImage)
      ∧ (s.startUp.read = .waiting ∨ s.startUp.read = .stalled →
        ∃ t, exec .configPollTimeout s = .next t
          ∧ (s.advanceTo (poll + 19200)).ConfigEnds t defaultImage .noMemory)
      ∧ (s.startUp.read = .reading → poll + 19200 ≤ max s.clock (s.startUp.lastAttempt + 1920) →
        ∃ t, exec .sclStallTimeout s = .next t
          ∧ (s.advanceTo (s.startUp.lastAttempt + 1920)).ConfigEnds t defaultImage .noMemory))
    ∧ ((readImage bytes).isSome = true ↔ imagePasses bytes)
    ∧ (∀ i, readImage bytes = some i → imageAt bytes i)
    ∧ defaultImage
      = { target := 500
          rank :=
            { a := { factor := 800, full := 600, minimum := 100, cutOff := true }
              b := { factor := 400, full := 600, minimum := 100, cutOff := false }
              c := { factor := 150, full := 600, minimum := 100, cutOff := false } }
          present := { a := true, b := true, c := true }
          stepLimit := 150, deadBand := 10, upRate := 200, downRate := 50, fadeRate := 20
          fallback := 700, vacant := 100, courtesy := 300, period := 2, window := 32, reach := 1
          theta := 35, leadMs := 1500, frontHold := 10, occUsed := false, edgeFalling := false
          edges := 3, vacancyMin := 15, activeHigh := false, overrideHours := 2
          mask :=
            { a := { switch := false, vacancy := false, front := false }
              b := { switch := false, vacancy := false, front := false }
              c := { switch := false, vacancy := false, front := false } } }

/-- The LISTEN timer reaching 3P makes the mode ACTIVE, starts the report timer and makes a FULL report
due, which joins the empty queue (R157, R167, R190).
Choices of the model it rests on: log 2. -/
def Obligations.ListenEndsInActive : Prop :=
  ∀ (s : State) (start : Nat), s.running = true → s.mode = .listen → s.startUp.listen = some start →
    s.tx.queue = [] → s.tx.contention = .txIdle → s.tx.parting = false →
    exec .listenTimerExpiry s
      = .next { s.advanceTo (start + 3 * s.img.period * 192000) with
          startUp := { s.startUp with mode := .active, listen := none }
          tx := { s.tx with
            report := some (max s.clock (start + 3 * s.img.period * 192000))
            queue :=
              [{ kind := .full
                 entryTime := (s.advanceTo (start + 3 * s.img.period * 192000)).now
                 attempts := 0, inFlight := false }]
            contention := .waitIdle } }

/-! ## Daylight sampler -/

/-- A sample has the first quality of R4's table whose condition holds, the range its conversion was
started in, and the value of its code in that range, or 0 when ABSENT or FAULT; its arrival changes the
settle count, the runs and the range as R5 to R7 and R10 give (R3 to R7, R10). -/
def Obligations.SampleQualityRunsAndRange : Prop :=
  ∀ (p : Sampler) (g : Range) (result : ConvResult) (x : Sample), x = p.sampleOf g result →
    x.quality
        = (if p.present = false then .absent
           else if result = .underflow then .fault
           else if 0 < p.settle then .settling
           else if result = .fullScale then .saturated
           else .good)
    ∧ x.range = g
    ∧ x.value
        = (match x.quality, result with
           | .absent, _ => 0
           | .fault, _ => 0
           | _, .code c => if g = .low then c.toNat else c.toNat * 8
           | _, .fullScale => if g = .low then 4095 else 32760
           | _, .underflow => 0)
    ∧ (x.quality = .saturated → g = .low → 1 ≤ p.saturatedRun →
      (p.arrive g result).range = .high ∧ (p.arrive g result).settle = 1
        ∧ (p.arrive g result).saturatedRun = 0 ∧ (p.arrive g result).lowRun = 0)
    ∧ (x.quality = .saturated → g = .low → p.saturatedRun = 0 →
      (p.arrive g result).range = p.range ∧ (p.arrive g result).saturatedRun = 1
        ∧ (p.arrive g result).lowRun = 0 ∧ (p.arrive g result).settle = p.settle - 1)
    ∧ (x.quality = .good → g = .high → x.value < 400 → 7 ≤ p.lowRun →
      (p.arrive g result).range = .low ∧ (p.arrive g result).settle = 1
        ∧ (p.arrive g result).saturatedRun = 0 ∧ (p.arrive g result).lowRun = 0)
    ∧ (x.quality = .good → g = .high → x.value < 400 → p.lowRun < 7 →
      (p.arrive g result).range = p.range ∧ (p.arrive g result).lowRun = p.lowRun + 1
        ∧ (p.arrive g result).saturatedRun = 0 ∧ (p.arrive g result).settle = p.settle - 1)
    ∧ (¬(x.quality = .saturated ∧ g = .low) → ¬(x.quality = .good ∧ g = .high ∧ x.value < 400) →
      (p.arrive g result).range = p.range ∧ (p.arrive g result).saturatedRun = 0
        ∧ (p.arrive g result).lowRun = 0
        ∧ (p.arrive g result).settle = (if p.present = true then p.settle - 1 else p.settle))
    ∧ (p.arrive g result).faultRun = (if x.quality = .fault then min 4 (p.faultRun + 1) else 0)

/-- SAMPLE_ARRIVAL ends the conversion, puts the sample at the newest end of a ring of 64, forms the fast
mean from four usable samples, latches SENSOR_FAULT at a FAULT sample that leaves the run at 4, sets
range, settle count and runs as the sample's quality asks (SampleQualityRunsAndRange), and touches only
the sampler and what the front tracker does with the arrival (R2, R5 to R7, R10 to R12).
Choices of the model it rests on: log 2. -/
def Obligations.SampleArrivalStoresSample : Prop :=
  ∀ (s : State) (result : ConvResult) (g : Range) (start : Nat) (x : Sample),
    s.running = true → s.sampler.converting = some g → s.sampler.conversion = some start →
    x = s.sampler.sampleOf g result →
    ∃ t, exec (.sampleArrival result) s = .next t ∧ t.clock = max s.clock (start + 2304)
      ∧ t.sampler.converting = none ∧ t.sampler.conversion = some start
      ∧ t.sampler.ring = (x :: s.sampler.ring).take 64
      ∧ t.sampler.taken = min 64 (s.sampler.taken + 1)
      ∧ t.sampler.fastMean
          = (if 4 ≤ t.sampler.taken ∧ ∀ y ∈ t.sampler.ring.take 4, y.quality = .good ∨ y.quality = .saturated
             then some (((t.sampler.ring.take 4).map Sample.value).sum / 4) else none)
      ∧ t.sampler.range = (s.sampler.arrive g result).range
      ∧ t.sampler.settle = (s.sampler.arrive g result).settle
      ∧ t.sampler.saturatedRun = (s.sampler.arrive g result).saturatedRun
      ∧ t.sampler.lowRun = (s.sampler.arrive g result).lowRun ∧ t.sampler.pollDue = s.sampler.pollDue
      ∧ t.sampler.window = s.sampler.window ∧ t.sampler.present = s.sampler.present
      ∧ t.sampler.faultRun = (s.sampler.arrive g result).faultRun
      ∧ t.latched .sensorFault
          = (s.latched .sensorFault || decide (x.quality = .fault ∧ t.sampler.faultRun = 4))
      ∧ s.ConditionsBut [.sensorFault, .frontTableFull] t
      ∧ s.OutputsKept t
      ∧ s.SameBut [.clock, .dim, .sampler, .conditions, .fronts, .ranks, .tx] t

/-- A conversion starts 50 ms after the last in the range then in force (R2), and the poll 25 ms after
each start sets the presence state, the settle count and SENSOR_ABSENT (R8, R9).
Choices of the model it rests on: log 2. -/
def Obligations.ConversionsStartAndPresenceIsPolled : Prop :=
  ∀ (s : State) (start : Nat) (high : Bool), s.running = true → s.sampler.conversion = some start →
    exec .conversionStart s
        = .next { s.advanceTo (start + 9600) with
            sampler := { s.sampler with
              conversion := some (start + 9600), converting := some s.sampler.range, pollDue := true } }
    ∧ (s.sampler.pollDue = true →
      exec (.presencePoll high) s
        = .next { s.advanceTo (start + 4800) with
            pins := { s.pins with spresHigh := high }
            sampler := { s.sampler with
              pollDue := false, present := high
              settle := if high = true ∧ s.sampler.present = false then 2 else s.sampler.settle }
            conditions := if high = true then s.conditions else s.conditions ||| 0x0001#16 })

/-- The window record of the newest `w` samples: size, usable count, mean, validity, and the highest
ranking quality in the order FAULT, ABSENT, SETTLING, SATURATED, GOOD (R13 to R15). -/
def Obligations.WindowRecordSummarisesNewestSamples : Prop :=
  ∀ (p : Sampler) (w : Nat) (xs good : List Sample), xs = p.ring.take w →
    good = xs.filter (fun x => x.quality = .good ∨ x.quality = .saturated) →
    (p.formWindow w).size = xs.length ∧ (p.formWindow w).usable = good.length
    ∧ (p.formWindow w).mean
        = (if good = [] then none else some ((good.map Sample.value).sum / good.length))
    ∧ ((p.formWindow w).valid = true ↔ w / 2 ≤ good.length ∧ w / 2 ≤ p.taken)
    ∧ (p.formWindow w).worst
        = (if xs.any (fun x => x.quality = .fault) then some .fault
           else if xs.any (fun x => x.quality = .absent) then some .absent
           else if xs.any (fun x => x.quality = .settling) then some .settling
           else if xs.any (fun x => x.quality = .saturated) then some .saturated
           else if xs.any (fun x => x.quality = .good) then some .good
           else none)

/-! ## Row table -/

/-- A FULL REPORT from a peer replaces its entry whole, takes the peer out of the want-full list, makes
a FULL due when it names the own position, and ends DEFER (R23, R24, R27, R29, R133); ROW and the receiver
are left as at the end of any frame heard (log 12).
Choices of the model it rests on: log 12. -/
def Obligations.FullReportReplacesEntry : Prop :=
  ∀ (s : State) (p straps : BitVec 6) (seq : BitVec 4) (body : List Byte) (r : Published),
    s.Hears → p.toNat ≠ s.own → p ≠ 63#6 → readFull body = some r →
    ∃ t, exec (.fullReport p seq body straps) s = .next t
      ∧ t.rows.entries
          = s.rows.entries.set p.toNat
              { status := .fresh, baseValid := true, lastSeq := seq.toNat, freshness := some s.clock
                record := r }
      ∧ t.rows.want = s.rows.want.filter (· ≠ p.toNat)
      ∧ t.tx = (if s.own ∈ r.want then s.fullDue.tx else s.tx).deferEnded
      ∧ t.pins = { s.pins with straps := straps } ∧ s.heard.SameBut [.rows, .tx, .pins] t

/-- A DELTA REPORT that follows on a valid base is applied; any other is a gap that clears the base,
latches DELTA_GAP and asks for a full report; both refresh the entry (R23, R25 to R27, R29).
Choices of the model it rests on: log 12. -/
def Obligations.DeltaReportIsAppliedOrAGap : Prop :=
  ∀ (s : State) (p straps : BitVec 6) (seq : BitVec 4) (body : List Byte) (d : Delta),
    s.Hears → p.toNat ≠ s.own → p ≠ 63#6 → readDelta body = some d →
    ∃ t, exec (.deltaReport p seq body straps) s = .next t
      ∧ ((s.rows.entry p.toNat).baseValid = true ∧ seq.toNat = ((s.rows.entry p.toNat).lastSeq + 1) % 16 →
        t.rows.entries
            = s.rows.entries.set p.toNat
                { status := .fresh, baseValid := true, lastSeq := seq.toNat, freshness := some s.clock
                  record := { d.fields.foldl DeltaField.apply (s.rows.entry p.toNat).record with
                    want := d.want } }
          ∧ t.rows.want = s.rows.want ∧ t.conditions = s.heard.conditions)
      ∧ (¬((s.rows.entry p.toNat).baseValid = true
            ∧ seq.toNat = ((s.rows.entry p.toNat).lastSeq + 1) % 16) →
        t.rows.entries
            = s.rows.entries.set p.toNat
                { s.rows.entry p.toNat with
                  status := .fresh, baseValid := false, freshness := some s.clock }
          ∧ t.rows.want
            = (if p.toNat ∈ s.rows.want ∨ 4 ≤ s.rows.want.length then s.rows.want
               else s.rows.want ++ [p.toNat])
          ∧ t.conditions = s.heard.conditions ||| 0x8000#16)
      ∧ t.tx = (if s.own ∈ d.want then s.fullDue.tx else s.tx).deferEnded
      ∧ t.pins = { s.pins with straps := straps } ∧ s.heard.SameBut [.rows, .conditions, .tx, .pins] t

/-- A malformed body is dropped whole: RX_FRAME_ERROR is latched, DEFER ends, and no block takes
anything (R133, R144); a SERVICE REQUEST of any kind whose target is above 63 or with more than 4
parameters is malformed so (R148). A SERVICE RESULT is delivered to no block and only ends DEFER, and in
CONFIG so is every frame, malformed or not (R133, R135, R169). A station frame that names position 63, and
any frame whose body is longer than 48, is discarded at its header: RX_FRAME_ERROR is latched and DEFER
goes on (R130, R132). On a STUCK line and in ISLAND a frame does nothing (R127, R135, R169).
Choices of the model it rests on: log 12. -/
def Obligations.MalformedBodyIsDropped : Prop :=
  ∀ (s : State) (p straps : BitVec 6) (seq : BitVec 4) (body : List Byte) (q : Request) (kind : Byte),
    (s.Hears → p.toNat ≠ s.own → p ≠ 63#6 → body.length ≤ 48 →
      (readFull body = none →
        exec (.fullReport p seq body straps) s
          = .next { s.heard.deferOver with
              conditions := s.heard.conditions ||| 0x0100#16, pins := { s.pins with straps := straps } })
      ∧ (readDelta body = none →
        exec (.deltaReport p seq body straps) s
          = .next { s.heard.deferOver with
              conditions := s.heard.conditions ||| 0x0100#16, pins := { s.pins with straps := straps } })
      ∧ (readNotice body = none →
        exec (.frontNotice p body straps) s
          = .next { s.heard.deferOver with
              conditions := s.heard.conditions ||| 0x0100#16, pins := { s.pins with straps := straps } })
      ∧ exec (.serviceResultHeard p straps) s
          = .next { s.heard.deferOver with pins := { s.pins with straps := straps } })
    ∧ (s.Hears → p = 63#6 ∨ 48 < body.length → s.rx.afterIdle = true ∨ s.touchedFrame = false →
      ∀ c ∈ [.fullReport p seq body straps, .deltaReport p seq body straps, .frontNotice p body straps],
        exec c s
          = .next { s.heard with
              conditions := s.heard.conditions ||| 0x0100#16, pins := { s.pins with straps := straps } })
    ∧ (s.running = true → s.mode = .config → s.line.state ≠ .stuck → s.tx.flight = none → p ≠ 63#6 →
        body.length ≤ 48 →
      ∀ c ∈ [.fullReport p seq body straps, .deltaReport p seq body straps, .frontNotice p body straps,
             .serviceResultHeard p straps],
        exec c s = .next { s.heard.deferOver with pins := { s.pins with straps := straps } })
    ∧ (s.running = true → s.line.state = .stuck ∨ s.mode = .island →
      ∀ c ∈ [.fullReport p seq body straps, .deltaReport p seq body straps, .frontNotice p body straps,
             .serviceResultHeard p straps],
        exec c s = .next { s with pins := { s.pins with straps := straps } })
    ∧ (s.Hears → 63 < q.target.toNat ∨ 4 < q.params.length → q.params.length ≤ 45 →
      (∀ c ∈ [.queryState q, .hold q, .release q, .step q, .runToMatch q, .forceLevel q, .forceCancel q,
             .snapshotLoad q, .snapshotShift q, .readEntry q, .readFronts q, .clearConditions q,
             .unknownServiceRequest kind q],
        exec c s = .next { s.heard.deferOver with conditions := s.heard.conditions ||| 0x0100#16 })
      ∧ exec (.restart q straps) s
          = .next { s.heard.deferOver with
              conditions := s.heard.conditions ||| 0x0100#16, pins := { s.pins with straps := straps } })
    ∧ (s.Hears → 45 < q.params.length → s.rx.afterIdle = true ∨ s.touchedFrame = false →
      (∀ c ∈ [.queryState q, .hold q, .release q, .step q, .runToMatch q, .forceLevel q, .forceCancel q,
             .snapshotLoad q, .snapshotShift q, .readEntry q, .readFronts q, .clearConditions q,
             .unknownServiceRequest kind q],
        exec c s = .next { s.heard with conditions := s.heard.conditions ||| 0x0100#16 })
      ∧ exec (.restart q straps) s
          = .next { s.heard with
              conditions := s.heard.conditions ||| 0x0100#16, pins := { s.pins with straps := straps } })
    ∧ (s.running = true → s.mode = .config → s.line.state ≠ .stuck → s.tx.flight = none →
        q.params.length ≤ 45 →
      (∀ c ∈ [.queryState q, .hold q, .release q, .step q, .runToMatch q, .forceLevel q, .forceCancel q,
             .snapshotLoad q, .snapshotShift q, .readEntry q, .readFronts q, .clearConditions q,
             .unknownServiceRequest kind q],
        exec c s = .next s.heard.deferOver)
      ∧ exec (.restart q straps) s
          = .next { s.heard.deferOver with pins := { s.pins with straps := straps } })
    ∧ (s.running = true → s.line.state = .stuck ∨ s.mode = .island →
      (∀ c ∈ [.queryState q, .hold q, .release q, .step q, .runToMatch q, .forceLevel q, .forceCancel q,
             .snapshotLoad q, .snapshotShift q, .readEntry q, .readFronts q, .clearConditions q,
             .unknownServiceRequest kind q],
        exec c s = .next s)
      ∧ exec (.restart q straps) s = .next { s with pins := { s.pins with straps := straps } })

/-- A frame that bears the own position latches DUPLICATE_POSITION and is not delivered: LISTEN goes to
MUTE, MUTE and a station with a parting report waiting stay, and an ACTIVE station empties its queue and
starts a parting report; a service result in the queue goes with it, its phase returning to IDLE, and
where that result was a RESTART's the restart begins instead (R135 to R137, R167, R172, R182).
Choices of the model it rests on: log 12, 21, 34. -/
def Obligations.DuplicatePositionSilencesStation : Prop :=
  ∀ (s : State) (p straps : BitVec 6) (seq : BitVec 4) (body : List Byte),
    s.Hears → s.ResultInv → p.toNat = s.own → p ≠ 63#6 → body.length ≤ 48 →
    ∃ t, exec (.fullReport p seq body straps) s = .next t ∧ exec (.deltaReport p seq body straps) s = .next t
      ∧ exec (.frontNotice p body straps) s = .next t ∧ exec (.serviceResultHeard p straps) s = .next t
      ∧ (s.mode = .active → s.tx.parting = false → s.service.phase = .resultPending →
          s.service.restartWaits = true →
        State.RestartBegins { s.heard with conditions := s.heard.conditions ||| 0x0020#16 } t straps)
      ∧ (s.mode ≠ .active ∨ s.tx.parting = true ∨ s.service.phase ≠ .resultPending
            ∨ s.service.restartWaits = false →
        t.conditions = s.heard.conditions ||| 0x0020#16
        ∧ (s.mode = .listen → t.startUp = { s.startUp with mode := .mute, listen := none }
            ∧ t.tx = s.tx.deferEnded ∧ t.service = s.service)
        ∧ (s.mode = .mute ∨ (s.mode = .active ∧ s.tx.parting = true) → t.startUp = s.startUp
            ∧ t.tx = s.tx.deferEnded ∧ t.service = s.service)
        ∧ (s.mode = .active → s.tx.parting = false → t.startUp = s.startUp
            ∧ t.tx = { s.tx with
                queue := [{ kind := .full, entryTime := s.now, attempts := 0, inFlight := false }]
                contention := .waitIdle, heldFull := false, parting := true }
            ∧ t.service = (if s.service.phase = .resultPending then
                { s.service with phase := .idle, pending := none } else s.service))
        ∧ t.pins = { s.pins with straps := straps }
        ∧ s.heard.SameBut [.conditions, .startUp, .tx, .service, .pins] t)

/-- A FRESH entry unheard for 3P becomes STALE, and a STALE one unheard for 8P becomes LOST, stops its
timer and leaves the want-full list; record, base and sequence stay (R30, R32).
Choices of the model it rests on: log 2. -/
def Obligations.EntriesAgeToStaleAndLost : Prop :=
  ∀ (s : State) (p : BitVec 6) (start : Nat), s.running = true →
    (s.rows.entry p.toNat).freshness = some start →
    ((s.rows.entry p.toNat).status = .fresh →
      exec (.freshnessStale p) s
        = .next { s.advanceTo (start + 3 * s.img.period * 192000) with
            rows := { s.rows with
              entries := s.rows.entries.set p.toNat { s.rows.entry p.toNat with status := .stale } } })
    ∧ ((s.rows.entry p.toNat).status = .stale →
      exec (.freshnessLost p) s
        = .next { s.advanceTo (start + 8 * s.img.period * 192000) with
            rows :=
              { entries := s.rows.entries.set p.toNat
                  { s.rows.entry p.toNat with status := .lost, freshness := none }
                want := s.rows.want.filter (· ≠ p.toNat) } })

/-- The near neighbour below is the FRESH entry at the highest position within the reach below the own
one, the near neighbour above the one at the lowest position within the reach above (R33). -/
def Obligations.NearNeighbourIsNearestFreshEntry : Prop :=
  ∀ (t : RowTable) (own reach : Nat) (n : Published),
    (t.below own reach = some n ↔
      ∃ q < own, own ≤ q + reach ∧ q ≤ 62 ∧ (t.entry q).status = .fresh ∧ (t.entry q).record = n
        ∧ ∀ q' < own, q < q' → q' ≤ 62 → (t.entry q').status ≠ .fresh)
    ∧ (t.above own reach = some n ↔
      ∃ q ≤ 62, own < q ∧ q ≤ own + reach ∧ (t.entry q).status = .fresh ∧ (t.entry q).record = n
        ∧ ∀ q' < q, own < q' → (t.entry q').status ≠ .fresh)

/-! ## Levelling -/

/-- The raw level is 0 when cut off with no need, and otherwise the least level that covers the need,
capped at 1000 and raised to the minimum (R46, R47); the lift floor is the largest figure goal less step
limit among the neighbours whose reading state is not UNAVAILABLE and whose goal is a level, and 0 when
there is none (R48). -/
def Obligations.RawLevelAndLiftFloor : Prop :=
  ∀ (target : Nat) (p : RankParams) (x level stepLimit : Nat) (r : Rank) (ns : List Published),
    (1 ≤ p.full →
      need target p x = target - x * p.factor / 1000
      ∧ (need target p x = 0 → p.cutOff = true → rawLevel target p x = 0)
      ∧ (0 < need target p x ∨ p.cutOff = false → need target p x * 1000 ≤ level * p.full →
          (∀ k < level, k * p.full < need target p x * 1000) →
          rawLevel target p x = max p.minimum (min 1000 level)))
    ∧ (∀ n ∈ ns, n.readingState ≠ .unavailable → ∀ g ∈ n.goal.get r,
      g ≤ liftFloorOf stepLimit r ns + stepLimit)
    ∧ (liftFloorOf stepLimit r ns = 0
      ∨ ∃ n ∈ ns, n.readingState ≠ .unavailable ∧ ∃ g ∈ n.goal.get r,
          g = liftFloorOf stepLimit r ns + stepLimit)

/-- The goal moves to the candidate exactly when one of R50's five conditions holds. -/
def Obligations.GoalMovesOnlyPastDeadBand : Prop :=
  ∀ (deadBand minimum liftFloor cand : Nat) (goal : Option Nat),
    bandedGoal deadBand minimum liftFloor cand goal
      = (match goal with
         | none => cand
         | some g =>
           if g + deadBand ≤ cand ∨ cand + deadBand ≤ g
               ∨ (cand ≠ g ∧ (cand = minimum ∨ cand = 0 ∨ cand = 1000)) ∨ g < liftFloor
           then cand else g)
    ∧ bandedGoal 20 100 0 325 (some 300) = 325 ∧ bandedGoal 20 100 0 315 (some 300) = 300
    ∧ bandedGoal 20 100 0 280 (some 300) = 280 ∧ bandedGoal 20 100 0 285 (some 300) = 300
    ∧ bandedGoal 20 100 0 100 (some 300) = 100 ∧ bandedGoal 20 100 310 310 (some 300) = 310

/-- A levelling tick that finds a reading: window, reading, goals, floors, LEVELLING claims and
published goals are set whole, the FRONT claims follow, VACANCY is valued again while VACANT, and a DELTA
falls due when the published record has moved enough, 500 ms or more after the last completed report
(R41, R45 to R50, R53, R56, R57, R70, R80, R81, R112, R158, R174). The reading is the own window mean,
OWN, when the window record is valid, and else the reading of the one near neighbour that publishes OWN,
or half the sum of two such, rounded down, BORROWED (R43, R44). The fast-track value while INACTIVE and the
pre-raise values of a record not PRE_RAISE stand, which is the model's choice (log 34).
Choices of the model it rests on: log 2, 34. -/
def Obligations.LevellingTickSetsGoalsFromReading : Prop :=
  ∀ (s : State) (start x : Nat) (st : ReadingState) (w : WindowRecord) (ns : List Published)
    (n m : Published),
    (s.running = true → s.levelling.tick = some start →
    s.service.skipsTick = false → s.PhaseInv →
    chooseReading (s.sampler.formWindow s.img.window) s.neighbours = (x, st) → st ≠ .unavailable →
    ∃ t, exec .levellingTick s = .next t ∧ s.TickFollows t start
      ∧ t.levelling.reading = x ∧ t.levelling.readingState = st
      ∧ t.conditions = (if st = .borrowed then s.conditions ||| 0x0004#16 else s.conditions)
      ∧ (∀ r : Rank, s.present r = true →
          t.levelling.liftFloor.get r = liftFloorOf s.img.stepLimit r s.neighbours
          ∧ t.levelling.goal.get r
            = some (bandedGoal s.img.deadBand (s.img.rank.get r).minimum
                (liftFloorOf s.img.stepLimit r s.neighbours)
                (max (rawLevel s.img.target (s.img.rank.get r) x)
                  (liftFloorOf s.img.stepLimit r s.neighbours))
                (s.levelling.goal.get r))
          ∧ (t.ranks.get r).claims.levelling
            = (t.levelling.goal.get r).map (fun g =>
                { value := g, rule := { up := s.img.upRate, down := s.img.downRate } })
          ∧ (t.ranks.get r).claims.fallback = none
          ∧ t.levelling.published.get r
            = (if (s.ranks.get r).ramp.faulted = true then none else t.levelling.goal.get r)))
    ∧ (w.valid = true → w.mean = some x → chooseReading w ns = (x, .own))
    ∧ (w.valid = false →
      (ns.filter (fun y => y.readingState = .own) = [n] → chooseReading w ns = (n.reading, .borrowed))
      ∧ (ns.filter (fun y => y.readingState = .own) = [n, m] →
        chooseReading w ns = ((n.reading + m.reading) / 2, .borrowed)))

/-- A levelling tick that finds no reading asserts FALLBACK and keeps the goals and floors, and does
otherwise what every tick does: the timer's next period, FRONT and VACANCY claims, the comparison for a
DELTA (R41, R54, R57, R81, R112, R158); a tick expiry while HELD, or after a step's tick, only starts the
timer's next period (R42). No reading is found when the window record is not valid and no near neighbour
publishes OWN (R43, R44). The fast-track value while INACTIVE and the pre-raise values of a record not
PRE_RAISE stand, which is the model's choice (log 34).
Choices of the model it rests on: log 2, 34. -/
def Obligations.BlindTickFallsBackAndHeldTickIsSkipped : Prop :=
  ∀ (s : State) (start x : Nat) (w : WindowRecord) (ns : List Published),
    (s.running = true → s.levelling.tick = some start →
    (s.service.skipsTick = true →
      exec .levellingTick s
        = .next { s.advanceTo (start + 38400) with
            levelling := { s.levelling with tick := some (start + 38400) } })
    ∧ (s.service.skipsTick = false → s.PhaseInv →
      chooseReading (s.sampler.formWindow s.img.window) s.neighbours = (x, .unavailable) →
      ∃ t, exec .levellingTick s = .next t ∧ s.TickFollows t start
        ∧ t.levelling.reading = 0 ∧ t.levelling.readingState = .unavailable
        ∧ t.levelling.goal = s.levelling.goal ∧ t.levelling.liftFloor = s.levelling.liftFloor
        ∧ t.conditions = s.conditions ||| 0x0008#16
        ∧ (∀ r : Rank, s.present r = true →
            (t.ranks.get r).claims.levelling = none
            ∧ (t.ranks.get r).claims.fallback
              = some
                  { value := s.img.fallback, rule := { up := s.img.upRate, down := s.img.downRate } }
            ∧ t.levelling.published.get r
              = (if (s.ranks.get r).ramp.faulted = true then none else some s.img.fallback))))
    ∧ (w.valid = false → (∀ y ∈ ns, y.readingState ≠ .own) → chooseReading w ns = (0, .unavailable))

/-- The law of levelling: after a tick that finds a reading, each present rank's goal is at least every
near neighbour's published goal for the rank less the step limit, unless that neighbour publishes
UNAVAILABLE (R52). -/
def Obligations.GoalsKeepWithinStepOfNeighbours : Prop :=
  ∀ (s t : State) (start : Nat) (n : Published) (r : Rank) (g : Nat),
    s.running = true → s.levelling.tick = some start → s.service.skipsTick = false → s.PhaseInv →
    (chooseReading (s.sampler.formWindow s.img.window) s.neighbours).2 ≠ .unavailable →
    exec .levellingTick s = .next t → s.present r = true →
    n ∈ s.neighbours → n.readingState ≠ .unavailable → n.goal.get r = some g →
    ∃ goal, t.levelling.goal.get r = some goal ∧ g ≤ goal + s.img.stepLimit

/-! ## Daylight fronts -/

/-- At a sample arrival an ARMED detector fires when the fast mean is at or below the threshold, and the
fast track starts, the sighting is placed in a record with its magnitude, and a notice naming that record
is offered; a DISARMED one runs its re-arm timer through quiet arrivals; the FRONT claims follow (R62 to
R64, R70, R81). That the notice is offered also where the sighting leaves the record's list at once behind
four sightings of the same millisecond is the model's choice (log 42), and so is that it fires on a window
record kept through a RESTART, or a return from ISLAND, before the first levelling tick in LISTEN (log 44).
Choices of the model it rests on: log 2, 42, 44. -/
def Obligations.DarkeningFiresDetectorAndFastTrack : Prop :=
  ∀ (s : State) (result : ConvResult) (g : Range) (start : Nat),
    s.running = true → s.sampler.converting = some g → s.sampler.conversion = some start →
    ∃ t, exec (.sampleArrival result) s = .next t
      ∧ t.fronts.armed
        = (s.fronts.armed && !darkAgainst s.sampler.window s.img.theta t.sampler.fastMean)
      ∧ (s.fronts.armed = true → darkAgainst s.sampler.window s.img.theta t.sampler.fastMean = true →
          t.fronts.rearm = none ∧ t.fronts.fastActive = true ∧ t.fronts.fastTimer = some t.clock)
      ∧ (s.fronts.armed = true → darkAgainst s.sampler.window s.img.theta t.sampler.fastMean = false →
          t.fronts.rearm = s.fronts.rearm)
      ∧ (s.fronts.armed = false →
          t.fronts.rearm
            = (if darkAgainst s.sampler.window s.img.theta t.sampler.fastMean = true then none
               else match s.fronts.rearm with
                 | some begun => some begun
                 | none => some t.clock))
      ∧ (¬(s.fronts.armed = true
            ∧ darkAgainst s.sampler.window s.img.theta t.sampler.fastMean = true) →
          t.fronts.table = s.fronts.table ∧ t.fronts.serial = s.fronts.serial ∧ t.tx = s.tx
          ∧ t.fronts.fastActive = s.fronts.fastActive ∧ t.fronts.fastTimer = s.fronts.fastTimer
          ∧ t.latched .frontTableFull = s.latched .frontTableFull)
      ∧ (s.fronts.armed = true → darkAgainst s.sampler.window s.img.theta t.sampler.fastMean = true →
          ∀ slow, s.sampler.window.mean = some slow → ∀ y, t.sampler.fastMean = some y →
          ∀ u, u = { s.advanceTo (start + 2304) with
                fronts := { s.fronts with armed := false, rearm := none } } →
          ∀ placed, placed = u.placeSighting (max 1 ((slow - y) * 100 / slow)) →
          t.fronts.table = placed.1.fronts.table ∧ t.fronts.serial = placed.1.fronts.serial
          ∧ t.latched .frontTableFull = placed.1.latched .frontTableFull
          ∧ (∀ o n, placed.2 = some (o, n) → t.tx = (u.offerNotice o n).tx)
          ∧ (placed.2 = none → t.tx = s.tx))
      ∧ (∀ r : Rank, ∀ y ∈ t.sampler.fastMean, t.fronts.fastActive = true →
          t.fronts.fastValue.get r
            = max (rawLevel s.img.target (s.img.rank.get r) y) (s.levelling.liftFloor.get r))
      ∧ s.FrontClaimsFollow t

/-- An own sighting joins the matching record whose newest sighting is nearest, the smaller identity among
equals, and makes it PASSED, or starts a record of the own identity when the table has or can be given
room, or latches FRONT_TABLE_FULL (R67 to R69). A record matches within 2,000 ms of its arrival, or with
an unknown direction and a newest sighting near and recent (R67); the sighting stands in order of time,
newest first, in a list of at most 4 (R66). A table of fewer than 4 records has room; a full one gives up
its MISSED record, else its WATCHING, else its APPROACHING one, and otherwise none, among several the one
with the oldest last update, or the latest arrival, or the smaller identity among equals (R73); the times
compared lie at or before now, or within 2^30 ms of it (R185). That the record joined is named as holding
the sighting also where that leaves its list at once behind four of the same millisecond is the model's
choice (log 42).
Choices of the model it rests on: log 23, 34, 42. -/
def Obligations.OwnSightingJoinsOrStartsRecord : Prop :=
  ∀ (s : State) (magnitude own : Nat) (full : List FrontRecord) (g : FrontRecord) (now : Time)
    (x : Sighting) (xs newer older : List Sighting),
    (∀ f, s.matchedFront = some f →
      f ∈ s.fronts.table ∧ f.matchesOwn s.own s.now = true
      ∧ (∀ h ∈ s.fronts.table, h.matchesOwn s.own s.now = true → f.nearness s.own ≤ h.nearness s.own)
      ∧ (s.fronts.table.Pairwise (fun g h => g.idBefore h = true) →
          ∀ h ∈ s.fronts.table, h.matchesOwn s.own s.now = true → h.nearness s.own = f.nearness s.own →
            f.origin < h.origin ∨ (f.origin = h.origin ∧ f.serial ≤ h.serial))
      ∧ s.placeSighting magnitude
        = ({ s with fronts := { s.fronts with
              table := replaceFront s.fronts.table
                (FrontRecord.recourse
                  { f with
                    sightings := ownSighting { pos := s.own, time := s.now } f.sightings
                    magnitude := max f.magnitude magnitude, ownTime := some s.now
                    lastUpdate := s.now, state := .passed, arrival := none }) } },
           some (f.origin, f.serial)))
    ∧ (s.matchedFront = none → ∀ table evicted,
      makeRoom (removeFront s.fronts.table s.own s.fronts.serial) = some (table, evicted) →
      s.placeSighting magnitude
        = ({ s with
             fronts := { s.fronts with
               serial := (s.fronts.serial + 1) % 16
               table := insertFront
                 { origin := s.own, serial := s.fronts.serial, direction := .unknown
                   magnitude := magnitude, sightings := [{ pos := s.own, time := s.now }], pace := none
                   arrival := none, state := .passed, lastUpdate := s.now, ownTime := some s.now
                   preRaise := ⟨0, 0, 0⟩, missedTime := none } table }
             conditions := if evicted = true then s.conditions ||| 0x2000#16 else s.conditions },
           some (s.own, s.fronts.serial)))
    ∧ (s.matchedFront = none →
      makeRoom (removeFront s.fronts.table s.own s.fronts.serial) = none →
      s.placeSighting magnitude
        = ({ s with
             fronts := { s.fronts with table := removeFront s.fronts.table s.own s.fronts.serial }
             conditions := s.conditions ||| 0x2000#16 }, none))
    ∧ (full.length < 4 → makeRoom full = some (full, false))
    ∧ (4 ≤ full.length →
      (full.all (fun f => f.state = .preRaise ∨ f.state = .passed) = true → makeRoom full = none)
      ∧ (full.all (fun f => f.state = .preRaise ∨ f.state = .passed) = false →
          ∃ f, victim full = some f ∧ makeRoom full = some (removeFront full f.origin f.serial, true)
            ∧ f ∈ full ∧ f.state ≠ .preRaise ∧ f.state ≠ .passed
            ∧ (f.state ≠ .missed → ∀ h ∈ full, h.state ≠ .missed)
            ∧ (f.state = .approaching → ∀ h ∈ full, h.state ≠ .watching)
            ∧ ((∀ h ∈ full, 0 ≤ since now h.lastUpdate
                  ∧ ∀ a ∈ h.arrival, -1073741824 ≤ since a now ∧ since a now < 1073741824) →
              (f.state ≠ .approaching → ∀ h ∈ full, h.state = f.state →
                since now h.lastUpdate ≤ since now f.lastUpdate)
              ∧ (f.state = .approaching → ∀ h ∈ full, h.state = .approaching →
                ∀ a ∈ h.arrival, ∀ b ∈ f.arrival, since a now ≤ since b now)
              ∧ (full.Pairwise (fun g h => g.idBefore h = true) → ∀ h ∈ full, h.state = f.state →
                (f.state ≠ .approaching ∧ h.lastUpdate = f.lastUpdate)
                  ∨ (f.state = .approaching ∧ h.arrival = f.arrival) →
                f.origin < h.origin ∨ (f.origin = h.origin ∧ f.serial ≤ h.serial)))))
    ∧ (g.matchesOwn own now = true ↔
        (g.state = .approaching ∨ g.state = .preRaise)
            ∧ (∃ a ∈ g.arrival, -2000 ≤ since now a ∧ since now a ≤ 2000)
          ∨ g.state ≠ .missed ∧ g.direction = .unknown
            ∧ ∃ y ∈ g.sightings.head?, max y.pos own - min y.pos own ≤ 2 ∧ since now y.time < 5000)
    ∧ (∀ y ∈ g.sightings.head?, g.nearness own = max y.pos own - min y.pos own)
    ∧ (xs.filter (fun y => y.pos ≠ x.pos) = newer ++ older →
        (∀ y ∈ newer, 0 ≤ since y.time x.time) → (∀ y ∈ older.head?, since y.time x.time < 0) →
      ownSighting x xs = (newer ++ x :: older).take 4)

/-- The detector re-arms after 2,000 ms of quiet, the fast track ends after the front hold time, a record
enters PRE_RAISE at its arrival less the lead and MISSED 3,000 ms after its arrival, and leaves the table
by age; the FRONT claims follow (R63, R70, R77 to R81). A pre-raise value is the fallback level without a
reading, and else the unbanded level for the reading darkened by the magnitude (R80). The value of a FRONT
claim is none unless the fast track is ACTIVE or a record is PRE_RAISE, and else the largest of the
fast-track value while ACTIVE, those records' pre-raise values and the asserted base claim's value (R81).
That the fast-track value outlives the fast track, and the pre-raise values the pre-raise, is the model's
choice (log 34).
Choices of the model it rests on: log 2, 34. -/
def Obligations.FrontTimesRunOut : Prop :=
  ∀ (s : State) (id : FrontId) (start magnitude : Nat) (r : Rank) (f : FrontRecord) (a : Time)
    (c : Claims) (v : Nat),
    (s.running = true →
    (s.fronts.rearm = some start →
      exec .rearmTimerExpiry s
        = .next { s.advanceTo (start + 384000) with
            fronts := { s.fronts with armed := true, rearm := none } })
    ∧ (s.fronts.fastTimer = some start →
      ∃ t, exec .fastTrackExpiry s = .next t
        ∧ t.clock = max s.clock (start + s.img.frontHold * 192000)
        ∧ t.fronts = { s.fronts with fastActive := false, fastTimer := none }
        ∧ s.FrontClaimsFollow t ∧ s.OutputsKept t ∧ s.SameBut [.clock, .dim, .fronts, .ranks] t)
    ∧ (s.front id = some f → f.state = .approaching → f.arrival = some a →
      ∃ t, exec (.preRaiseStart id) s = .next t
        ∧ t.fronts = { s.fronts with
            table := replaceFront s.fronts.table
              { f with state := .preRaise, preRaise := PerRank.of (s.preRaiseValue f.magnitude) } }
        ∧ t.clock = (s.advanceToTime (a - BitVec.ofNat 32 s.img.leadMs)).clock
        ∧ s.FrontClaimsFollow t ∧ s.OutputsKept t ∧ s.SameBut [.clock, .dim, .fronts, .ranks] t)
    ∧ (s.front id = some f → f.state = .preRaise → f.arrival = some a →
      ∃ t, exec (.frontMissed id) s = .next t
        ∧ t.fronts = { s.fronts with
            table := replaceFront s.fronts.table { f with state := .missed, missedTime := some t.now } }
        ∧ t.clock = (s.advanceToTime (a + 3000#32)).clock
        ∧ s.FrontClaimsFollow t ∧ s.OutputsKept t ∧ s.SameBut [.clock, .dim, .fronts, .ranks] t)
    ∧ (s.front id = some f →
        (f.state = .passed ∧ f.ownTime.map (· + BitVec.ofNat 32 (s.img.frontHold * 1000)) = some a)
          ∨ (f.state = .missed ∧ f.missedTime.map (· + 30000#32) = some a)
          ∨ (f.state = .watching ∧ f.lastUpdate + 30000#32 = a) →
      exec (.frontRecordRemoval id) s
        = .next { s.advanceToTime a with
            fronts := { s.fronts with table := removeFront s.fronts.table f.origin f.serial } }))
    ∧ s.preRaiseValue magnitude r
        = (if s.levelling.readingState = .unavailable then s.img.fallback
           else max (rawLevel s.img.target (s.img.rank.get r) (s.levelling.reading * (100 - magnitude) / 100))
             (s.levelling.liftFloor.get r))
    ∧ (s.frontValue r c = none ↔ s.fronts.fastActive = false ∧ ∀ g ∈ s.fronts.table, g.state ≠ .preRaise)
    ∧ (s.frontValue r c = some v →
      (s.fronts.fastActive = true → s.fronts.fastValue.get r ≤ v)
      ∧ (∀ g ∈ s.fronts.table, g.state = .preRaise → g.preRaise.get r ≤ v)
      ∧ (∀ x ∈ c.levelling, x.value ≤ v) ∧ (∀ x ∈ c.fallback, c.levelling = none → x.value ≤ v)
      ∧ ((s.fronts.fastActive = true ∧ v = s.fronts.fastValue.get r)
        ∨ (∃ g ∈ s.fronts.table, g.state = .preRaise ∧ v = g.preRaise.get r)
        ∨ (∃ x ∈ c.levelling, v = x.value) ∨ (∃ x ∈ c.fallback, c.levelling = none ∧ v = x.value)))

/-- A FRONT NOTICE is merged into the record of its identity, raising its magnitude and renewing its
update, or makes a new record where there is or can be room, or is dropped with FRONT_TABLE_FULL
latched; the FRONT claims follow and DEFER ends (R71 to R73, R81, R133). Its ages become local times
(R71); a sighting at a new position joins the list in order of time, a later one replaces the time at its
position, and another is discarded (R66); direction and pace are the notice's where the list determines
none and the direction is unknown (R72, R73). The 0 of a new record's pre-raise values is the model's own:
they are formed when the record becomes PRE_RAISE (log 34).
Choices of the model it rests on: log 12, 23, 34. -/
def Obligations.FrontNoticeMergesOrStartsRecord : Prop :=
  ∀ (s : State) (p straps : BitVec 6) (body : List Byte) (n : Notice) (f : FrontRecord)
    (takes : Bool) (x : Sighting) (xs merged newer older : List Sighting),
    (s.Hears → p.toNat ≠ s.own → p ≠ 63#6 → readNotice body = some n →
      ∃ t, exec (.frontNotice p body straps) s = .next t
        ∧ (findFront s.fronts.table n.origin n.serial = some f →
            t.fronts = { s.fronts with table := replaceFront s.fronts.table (s.mergeNotice n f) }
            ∧ t.conditions = s.heard.conditions ∧ s.FrontClaimsFollow t)
        ∧ (findFront s.fronts.table n.origin n.serial = none → ∀ table evicted,
            makeRoom s.fronts.table = some (table, evicted) →
            t.fronts = { s.fronts with table := insertFront (s.newFromNotice n) table }
            ∧ t.conditions
              = (if evicted = true then s.heard.conditions ||| 0x2000#16 else s.heard.conditions)
            ∧ s.FrontClaimsFollow t)
        ∧ (findFront s.fronts.table n.origin n.serial = none → makeRoom s.fronts.table = none →
            t.fronts = s.fronts ∧ t.conditions = s.heard.conditions ||| 0x2000#16 ∧ t.ranks = s.ranks)
        ∧ t.tx = s.tx.deferEnded ∧ t.pins = { s.pins with straps := straps } ∧ s.OutputsKept t
        ∧ s.heard.SameBut [.fronts, .conditions, .ranks, .tx, .pins] t)
    ∧ (merged = (sightingsOf s.now n).foldl mergeSighting f.sightings →
      ((takes = true ↔ courseOf merged = none ∧ f.direction = .unknown) →
        s.mergeNotice n f = s.recompute
          { f with
            sightings := merged, magnitude := max f.magnitude n.magnitude, lastUpdate := s.now
            direction := if takes then n.direction else f.direction
            pace := if takes then (n.pace <|> f.pace) else f.pace })
      ∧ (s.mergeNotice n f).magnitude = max f.magnitude n.magnitude
      ∧ (s.mergeNotice n f).lastUpdate = s.now ∧ (s.mergeNotice n f).sightings = merged)
    ∧ s.newFromNotice n = s.recompute
        { origin := n.origin, serial := n.serial, direction := n.direction, magnitude := n.magnitude
          sightings := (sightingsOf s.now n).foldl mergeSighting [], pace := n.pace, arrival := none
          state := .watching, lastUpdate := s.now, ownTime := none, preRaise := ⟨0, 0, 0⟩
          missedTime := none }
    ∧ sightingsOf s.now n
        = n.sightings.map (fun a => { pos := a.pos, time := s.now - BitVec.ofNat 32 (a.age * 10) })
    ∧ (xs = newer ++ older → (∀ y ∈ xs, y.pos ≠ x.pos) → (∀ y ∈ newer, 0 ≤ since y.time x.time) →
        (∀ y ∈ older.head?, since y.time x.time < 0) →
      mergeSighting xs x = (newer ++ x :: older).take 4)
    ∧ (∀ y, xs.find? (fun z => z.pos = x.pos) = some y →
        mergeSighting xs x = if 0 < since x.time y.time then ownSighting x xs else xs)
    ∧ s.recompute f
        = (if (f.recourse.restate s.own s.img.leadMs s.now).state = .preRaise then
            { f.recourse.restate s.own s.img.leadMs s.now with
              preRaise := PerRank.of
                (s.preRaiseValue (f.recourse.restate s.own s.img.leadMs s.now).magnitude) }
          else f.recourse.restate s.own s.img.leadMs s.now)

/-- Direction and pace come from the two newest sightings when the newer is strictly later, the pace at
least 1 and none above 10,000, and otherwise keep their values (R75). Then PASSED has no arrival, MISSED
is kept, a front not heading for the own position is WATCHING, and one heading for it follows R76's
table. That a record keeps its pre-raise values when its pre-raise ends is the model's choice (log 34).
Choices of the model it rests on: log 34. -/
def Obligations.CourseAndArrivalFollowSightings : Prop :=
  ∀ (f : FrontRecord) (own lead pace : Nat) (now : Time) (x y : Sighting) (rest older : List Sighting),
    (f.sightings = x :: y :: older → x.pos ≠ y.pos → 0 < since x.time y.time →
      pace = max 1 ((since x.time y.time).toNat / (max x.pos y.pos - min x.pos y.pos)) →
      f.recourse = { f with
        direction := if y.pos < x.pos then .towardHigher else .towardLower
        pace := if 10000 < pace then none else some pace })
    ∧ (f.sightings = x :: y :: older → ¬(0 < since x.time y.time) → f.recourse = f)
    ∧ (f.sightings = [x] → f.recourse = f)
    ∧ (f.sightings = x :: rest →
      (f.state = .passed → f.restate own lead now = { f with arrival := none })
      ∧ (f.state = .missed → f.restate own lead now = f)
      ∧ (f.state ≠ .passed → f.state ≠ .missed →
          (¬((f.direction = .towardHigher ∧ x.pos < own) ∨ (f.direction = .towardLower ∧ own < x.pos))
            ∨ f.pace = none ∨ ∃ y ∈ f.sightings, y.pos = own) →
          f.restate own lead now = { f with arrival := none, state := .watching })
      ∧ (f.state ≠ .passed → f.state ≠ .missed → f.pace = some pace →
          ((f.direction = .towardHigher ∧ x.pos < own) ∨ (f.direction = .towardLower ∧ own < x.pos)) →
          (∀ y ∈ f.sightings, y.pos ≠ own) →
          ∀ a, a = x.time + BitVec.ofNat 32 ((max x.pos own - min x.pos own) * pace) →
          (3000 ≤ since now a →
            f.restate own lead now
              = { f with arrival := some a, state := .missed, missedTime := some now })
          ∧ (since now a < 3000 → (f.state = .preRaise ∨ 0 ≤ since now a + lead) →
            f.restate own lead now = { f with arrival := some a, state := .preRaise })
          ∧ (since now a < 3000 → f.state ≠ .preRaise → since now a + lead < 0 →
            f.restate own lead now = { f with arrival := some a, state := .approaching })))

/-! ## Claims and ramps -/

/-- The claim chosen is the asserted unmasked claim of highest priority (R86, R88, R89). A change of
claims is recorded at every present rank; while the arbiters choose, a rank whose set changed puts its
chosen claim in service and hands it on; while they do not, claim in service, target, rule and output
stand (R89, R91, R95, R102). -/
def Obligations.ArbiterChoosesHighestAndHandsItOn : Prop :=
  ∀ (m : Mask) (c : Claims) (k : ClaimKind) (x : Claim) (s : State) (f : Rank → Claims → Claims)
    (r : Rank) (u : RankUnit),
    (c.chosen m = some (k, x) ↔
      c.claim k = some x ∧ m.hides k = false
      ∧ ∀ k' : ClaimKind, claimCode (some k') < claimCode (some k) →
          c.claim k' = none ∨ m.hides k' = true)
    ∧ (c.chosen m = none ↔ ∀ k' : ClaimKind, c.claim k' = none ∨ m.hides k' = true)
    ∧ (u = (s.changeClaims f).ranks.get r →
      (s.present r = false → u = s.ranks.get r)
      ∧ (s.present r = true → u.claims = f r (s.ranks.get r).claims)
      ∧ (s.present r = true → s.service.choosing = false →
          u.inService = (s.ranks.get r).inService ∧ u.ramp = (s.ranks.get r).ramp)
      ∧ (s.present r = true → s.service.choosing = true → u.claims ≠ (s.ranks.get r).claims →
          (∀ kind y, u.claims.chosen (s.img.mask.get r) = some (kind, y) →
            u.inService = some kind ∧ u.ramp.target = y.value ∧ u.ramp.rule = some y.rule
            ∧ u.ramp.output = (s.ranks.get r).ramp.output
            ∧ ((s.ranks.get r).ramp.state ≠ .frozen →
                u.ramp.state = motion (s.ranks.get r).ramp.output y.value
                ∧ u.ramp.acc
                  = (if u.ramp.state = (s.ranks.get r).ramp.state ∧ u.ramp.state ≠ .still then
                      (s.ranks.get r).ramp.acc else 0))))
      ∧ s.SameBut [.ranks] (s.changeClaims f))

/-- A ramp step moves a RISING or FALLING output by the whole part of the fraction and the rate over 50,
or to its target when that is no farther, and leaves a STILL or FROZEN one alone (R94). It is RISING
below its target, FALLING above it and STILL at it (R93). An asserted
fault-sense sample counts only while lit, a deasserted one always, and three in a row make the rank
faulted or clear it (R99, R100). -/
def Obligations.RampStepMovesAndJudgesFaultLine : Prop :=
  ∀ (g : Ramp) (u : Rule),
    (g.state = .rising → g.rule = some u →
      g.move = (if g.target - g.output ≤ (g.acc + u.up) / 50 then
                  { g with output := g.target, acc := 0, state := .still }
                else { g with output := g.output + (g.acc + u.up) / 50, acc := (g.acc + u.up) % 50 }))
    ∧ (g.state = .falling → g.rule = some u →
      g.move = (if g.output - g.target ≤ (g.acc + u.down) / 50 then
                  { g with output := g.target, acc := 0, state := .still }
                else
                  { g with output := g.output - (g.acc + u.down) / 50, acc := (g.acc + u.down) % 50 }))
    ∧ (g.state = .still ∨ g.state = .frozen → g.move = g)
    ∧ (g.state = motion g.output g.target → g.InRange →
      g.move.output ≤ g.output + 20 ∧ g.output ≤ g.move.output + 20 ∧ g.move.output ≤ 1000
      ∧ (g.output ≤ g.target → g.move.output ≤ g.target)
      ∧ (g.target ≤ g.output → g.target ≤ g.move.output))
    ∧ (0 < g.output → g.sense true
      = { g with
          assertedRun := min 3 (g.assertedRun + 1), clearRun := 0
          faulted := if 2 ≤ g.assertedRun then true else g.faulted })
    ∧ (g.output = 0 → g.sense true = g)
    ∧ g.sense false
      = { g with
          clearRun := min 3 (g.clearRun + 1), assertedRun := 0
          faulted := if 2 ≤ g.clearRun then false else g.faulted }
    ∧ (motion g.output g.target = .rising ↔ g.output < g.target)
    ∧ (motion g.output g.target = .falling ↔ g.target < g.output)
    ∧ (motion g.output g.target = .still ↔ g.output = g.target)

/-- A ramp step outside a match and outside a step's count: every present rank's fault line is judged on
the output before the step, then the output moves (R93, R94, R99, R100). In CONFIG, with no image to say
which ranks are present, all three lines are judged and no output moves (R99; that all three are is log 15).
Choices of the model it rests on: log 2, 15. -/
def Obligations.RampStepSensesFaultsThenMoves : Prop :=
  ∀ (s : State) (flt before : PerRank Bool) (start : Nat), s.running = true → s.rampClock = some start →
    s.matchMet = none → ¬(s.service.hold = .stepping ∧ s.service.step.tickDone = true) →
    (s.startUp.image.isSome = true →
      ∃ t, exec (.rampStep flt before) s = .next t ∧ t.clock = max s.clock (start + 3840)
        ∧ t.rampClock = some (start + 3840) ∧ t.pins = { s.pins with flt := flt }
        ∧ (∀ r : Rank, t.ranks.get r
            = if s.present r = true then
                { s.ranks.get r with ramp := ((s.ranks.get r).ramp.sense (flt.get r)).move }
              else s.ranks.get r)
        ∧ (∀ r : Rank, t.latched (outputFault r)
            = (s.latched (outputFault r)
                || decide (s.present r = true ∧ flt.get r = true ∧ 0 < (s.ranks.get r).ramp.output
                    ∧ (t.ranks.get r).ramp.assertedRun = 3)))
        ∧ s.ConditionsBut [.outputFaultA, .outputFaultB, .outputFaultC] t
        ∧ s.SameBut [.clock, .dim, .rampClock, .pins, .ranks, .conditions] t)
    ∧ (s.startUp.image = none →
      ∃ t, exec (.rampStep flt before) s = .next t ∧ t.clock = max s.clock (start + 3840)
        ∧ t.rampClock = some (start + 3840) ∧ t.pins = { s.pins with flt := flt }
        ∧ (∀ r : Rank, t.ranks.get r
            = { s.ranks.get r with ramp := (s.ranks.get r).ramp.sense (flt.get r) })
        ∧ (∀ r : Rank, t.latched (outputFault r)
            = (s.latched (outputFault r)
                || decide (flt.get r = true ∧ 0 < (s.ranks.get r).ramp.output
                    ∧ (t.ranks.get r).ramp.assertedRun = 3)))
        ∧ s.ConditionsBut [.outputFaultA, .outputFaultB, .outputFaultC] t
        ∧ s.SameBut [.clock, .dim, .rampClock, .pins, .ranks, .conditions] t)

/-- RUN TO MATCH ends at the ramp step that finds the sense met: HELD with cause MATCH, every present
generator FROZEN, the named output unmoved, the others moved only if their step came first (R97); and
the tenth step counted after a STEP's tick ends it, HELD with cause STEP_DONE, and there a unicast STEP's
result is composed (R174, R175). A match is met at or above, or at or below, its value (R97, R176).
The step record stands as the step left it, the tenth step counted, where no rule empties it (log 40); that
the match record is empty once RUN TO MATCH has ended is the model's choice (log 41).
Choices of the model it rests on: log 2, 14, 40, 41. -/
def Obligations.MatchAndTenthStepHoldStation : Prop :=
  ∀ (s : State) (flt before : PerRank Bool) (start x : Nat) (m : MatchRecord),
    (m.sense = .atOrAbove → (m.meets x = true ↔ m.value ≤ x))
    ∧ (m.sense = .atOrBelow → (m.meets x = true ↔ x ≤ m.value))
    ∧ (s.running = true → s.rampClock = some start → s.startUp.image.isSome = true →
    (s.service.hold = .runToMatch → s.service.matching = some m →
      m.meets (s.ranks.get m.rank).ramp.output = true →
      ∃ t, exec (.rampStep flt before) s = .next t ∧ t.clock = max s.clock (start + 3840)
        ∧ t.rampClock = some (start + 3840) ∧ t.pins = { s.pins with flt := flt }
        ∧ s.ConditionsBut [.outputFaultA, .outputFaultB, .outputFaultC] t
        ∧ t.service = { s.service with
            hold := .held, cause := some .matched, matching := none }
        ∧ (∀ r : Rank, s.present r = true → (t.ranks.get r).ramp.state = .frozen
            ∧ (t.ranks.get r).ramp.output
              = (if r ≠ m.rank ∧ before.get r = true then (s.ranks.get r).ramp.move.output
                 else (s.ranks.get r).ramp.output))
        ∧ s.SameBut [.clock, .dim, .rampClock, .pins, .ranks, .conditions, .service] t)
    ∧ (s.service.hold = .stepping → s.service.step.tickDone = true → s.service.step.unicast = false →
      9 ≤ s.service.step.count →
      ∃ t, exec (.rampStep flt before) s = .next t ∧ t.clock = max s.clock (start + 3840)
        ∧ t.rampClock = some (start + 3840) ∧ t.pins = { s.pins with flt := flt }
        ∧ s.ConditionsBut [.outputFaultA, .outputFaultB, .outputFaultC] t
        ∧ t.service = { s.service with
            hold := .held, cause := some .stepDone, matching := none
            step := { s.service.step with count := s.service.step.count + 1 } }
        ∧ (∀ r : Rank, s.present r = true → (t.ranks.get r).ramp.state = .frozen
            ∧ (t.ranks.get r).ramp.output = (s.ranks.get r).ramp.move.output)
        ∧ s.SameBut [.clock, .dim, .rampClock, .pins, .ranks, .conditions, .service] t)
    ∧ (s.service.hold = .stepping → s.service.step.tickDone = true → s.service.step.unicast = true →
      9 ≤ s.service.step.count → ∀ p, s.service.pending = some p → p.restarts = false →
      ∃ t, exec (.rampStep flt before) s = .next t ∧ t.clock = max s.clock (start + 3840)
        ∧ t.rampClock = some (start + 3840) ∧ t.pins = { s.pins with flt := flt }
        ∧ s.ConditionsBut [.outputFaultA, .outputFaultB, .outputFaultC] t
        ∧ t.service.hold = .held ∧ t.service.cause = some .stepDone ∧ t.service.matching = none
        ∧ t.service.step = { s.service.step with count := s.service.step.count + 1 }
        ∧ (∀ r : Rank, s.present r = true → (t.ranks.get r).ramp.state = .frozen
            ∧ (t.ranks.get r).ramp.output = (s.ranks.get r).ramp.move.output)
        ∧ (s.mode = .active → s.tx.parting = false → t.ResultJoins s.tx s.service p)
        ∧ (s.mode ≠ .active ∨ s.tx.parting = true → t.ResultDropped s.tx)
        ∧ s.SameBut [.clock, .dim, .rampClock, .pins, .ranks, .conditions, .tx, .service] t)
    ∧ (s.service.hold = .stepping → s.service.step.tickDone = true → s.service.step.count < 9 →
      ∃ t, exec (.rampStep flt before) s = .next t ∧ t.clock = max s.clock (start + 3840)
        ∧ t.rampClock = some (start + 3840) ∧ t.pins = { s.pins with flt := flt }
        ∧ s.ConditionsBut [.outputFaultA, .outputFaultB, .outputFaultC] t
        ∧ t.service = { s.service with
            step := { s.service.step with count := s.service.step.count + 1 } }
        ∧ (∀ r : Rank, s.present r = true →
            (t.ranks.get r).ramp.output = (s.ranks.get r).ramp.move.output)
        ∧ s.SameBut [.clock, .dim, .rampClock, .pins, .ranks, .conditions, .service] t))

/-- While the station stays HELD, no command moves an output or changes the claim in service or what was
handed to a generator (R91, R96). -/
def Obligations.HeldStationKeepsOutputsAndChoice : Prop :=
  ∀ (c : Instr) (s t : State), s.ConfigInv → s.RampInv → s.BaseInv → s.service.hold = .held →
    exec c s = .next t → t.service.hold = .held →
    ∀ r : Rank, (t.ranks.get r).ramp.output = (s.ranks.get r).ramp.output
      ∧ (t.ranks.get r).inService = (s.ranks.get r).inService
      ∧ (t.ranks.get r).ramp.target = (s.ranks.get r).ramp.target
      ∧ (t.ranks.get r).ramp.rule = (s.ranks.get r).ramp.rule

/-! ## Occupancy and wall controls -/

/-- An active edge joins a list of at most 16; a qualifying window makes the bay OCCUPIED and withdraws
VACANCY; in OCCUPIED every edge restarts the vacancy timer; the oldest time leaves at 10,000 ms; at the
vacancy time the bay becomes VACANT and any override is cancelled, a long press becoming SPENT; a
transition the other way, one in CONFIG and one with occupancy unused are passed over (R107 to R112,
R121).
Choices of the model it rests on: log 2, 20. -/
def Obligations.OccupancyFollowsEdgesAndVacancyTime : Prop :=
  ∀ (s : State) (edge : Edge) (start : Nat) (oldest : Time) (rest edges : List Time), s.running = true →
    (s.mode ≠ .config → s.img.occUsed = true →
      edge = (if s.img.edgeFalling = true then .falling else .rising) →
      edges = (if 16 ≤ s.occ.edges.length then s.occ.edges.drop 1 else s.occ.edges) ++ [s.now] →
      (s.occ.state = .occupied →
        exec (.occActiveEdge edge) s
          = .next { s with occ := { s.occ with edges := edges, vacancy := some s.clock } })
      ∧ (s.occ.state ≠ .occupied → edges.length < s.img.edges →
        exec (.occActiveEdge edge) s = .next { s with occ := { s.occ with edges := edges } })
      ∧ (s.occ.state ≠ .occupied → s.img.edges ≤ edges.length →
        ∃ t, exec (.occActiveEdge edge) s = .next t
          ∧ t.occ = { state := .occupied, edges := edges, vacancy := some s.clock }
          ∧ (s.ClaimsBecome t fun _ c => { c with vacancy := none })
          ∧ s.OutputsKept t ∧ s.SameBut [.occ, .ranks] t))
    ∧ (s.mode = .config ∨ s.img.occUsed = false
          ∨ edge ≠ (if s.img.edgeFalling = true then .falling else .rising) →
      exec (.occActiveEdge edge) s = .next s)
    ∧ (s.occ.edges = oldest :: rest →
      exec .edgeAgeOut s
        = .next { s.advanceToTime (oldest + 10000#32) with occ := { s.occ with edges := rest } })
    ∧ (s.mode ≠ .config → s.occ.vacancy = some start →
      ∃ t, exec .vacancyTimerExpiry s = .next t
        ∧ t.clock = max s.clock (start + s.img.vacancyMin * 60 * 192000)
        ∧ t.occ = { s.occ with state := .vacant, vacancy := none }
        ∧ t.switch
          = (if s.switch.level.isSome = true then
              { s.switch with
                level := none, travel := none, override := none, levelStep := none
                press := if s.switch.press = .long then .spent else s.switch.press }
             else s.switch)
        ∧ (s.ClaimsBecome t fun _ c =>
            { c with
              vacancy := some
                { value := if s.neighbours.any (fun n => n.occupancy = .occupied) then s.img.courtesy
                           else s.img.vacant
                  rule := { up := s.img.fadeRate, down := s.img.fadeRate } }
              switch := if s.switch.level.isSome then none else c.switch })
        ∧ s.OutputsKept t ∧ s.SameBut [.clock, .dim, .occ, .switch, .ranks] t)

/-- WSW runs the debounce timer while it differs from the debounced level; after 30 ms a press starts
TIMING and restarts a running override, and a release by its press state does nothing, stops a long
press, or toggles the override (R114 to R116, R118 to R121).
Choices of the model it rests on: log 2. -/
def Obligations.SwitchIsDebouncedAndShortPressToggles : Prop :=
  ∀ (s : State) (high : Bool) (start : Nat), s.running = true →
    (s.mode = .config →
      exec (.wswLevelChange high) s = .next { s with pins := { s.pins with wswHigh := high } })
    ∧ (s.mode ≠ .config →
      exec (.wswLevelChange high) s
        = .next { s with
            pins := { s.pins with wswHigh := high }
            switch := { s.switch with
              debounce := if (high == s.img.activeHigh) = s.switch.pressed then none
                else match s.switch.debounce with
                  | some begun => some begun
                  | none => some s.clock } })
    ∧ (s.switch.debounce = some start → s.switch.pressed = false →
      exec .debounceExpiry s
        = .next { s.advanceTo (start + 5760) with
            switch := { s.switch with
              pressed := true, debounce := none, press := .timing
              pressTimer := some (max s.clock (start + 5760))
              override := if s.switch.level.isSome then some (max s.clock (start + 5760))
                          else s.switch.override } })
    ∧ (s.switch.debounce = some start → s.switch.pressed = true →
      (s.switch.press = .none ∨ s.switch.press = .spent →
        exec .debounceExpiry s
          = .next { s.advanceTo (start + 5760) with
              switch := { s.switch with pressed := false, debounce := none, press := .none } })
      ∧ (s.switch.press = .long →
        ∃ t, exec .debounceExpiry s = .next t ∧ t.clock = max s.clock (start + 5760)
          ∧ t.switch = { s.switch with
              pressed := false, debounce := none, press := .none, levelStep := none }
          ∧ (s.ClaimsBecome t fun _ c =>
              { c with
                switch := s.switch.level.map fun v =>
                  { value := v, rule := { up := 1000, down := 1000 } } })
          ∧ s.OutputsKept t ∧ s.SameBut [.clock, .dim, .switch, .ranks] t)
      ∧ (s.switch.press = .timing → s.switch.level.isSome = true →
        ∃ t, exec .debounceExpiry s = .next t ∧ t.clock = max s.clock (start + 5760)
          ∧ t.switch = { s.switch with
              pressed := false, debounce := none, press := .none, pressTimer := none
              level := none, travel := none, levelStep := none, override := none }
          ∧ (s.ClaimsBecome t fun _ c => { c with switch := none })
          ∧ s.OutputsKept t ∧ s.SameBut [.clock, .dim, .switch, .ranks] t)
      ∧ (s.switch.press = .timing → s.switch.level = none →
        ∃ t, exec .debounceExpiry s = .next t ∧ t.clock = max s.clock (start + 5760)
          ∧ t.switch = { s.switch with
              pressed := false, debounce := none, press := .none, pressTimer := none
              level := some (if 0 < s.highestOutput then 0 else 1000)
              travel := none, override := some t.clock }
          ∧ (s.ClaimsBecome t fun _ c =>
              { c with
                switch := some
                  { value := if 0 < s.highestOutput then 0 else 1000
                    rule := { up := 1000, down := 1000 } } })
          ∧ s.OutputsKept t ∧ s.SameBut [.clock, .dim, .switch, .ranks] t))

/-- At 800 ms a press becomes long and starts or takes on an override whose level moves by 5 every 20 ms
in the chosen direction, not past 0 or 1000; the override ends after the override time (R117 to R121).
Choices of the model it rests on: log 2. -/
def Obligations.LongPressMovesOverrideLevel : Prop :=
  ∀ (s : State) (start level : Nat), s.running = true →
    (s.switch.press = .timing → s.switch.pressTimer = some start → s.switch.level = none →
      ∃ t, exec .pressTimerExpiry s = .next t ∧ t.clock = max s.clock (start + 153600)
        ∧ t.switch = { s.switch with
            press := .long, pressTimer := none, levelStep := some t.clock
            level := some s.highestOutput
            travel := some (if s.highestOutput < 500 then .up else .down)
            override := some t.clock }
        ∧ (s.ClaimsBecome t fun _ c =>
            { c with
              switch := some { value := s.highestOutput, rule := { up := 250, down := 250 } } })
        ∧ s.OutputsKept t ∧ s.SameBut [.clock, .dim, .switch, .ranks] t)
    ∧ (s.switch.press = .timing → s.switch.pressTimer = some start → s.switch.level = some level →
      ∃ t, exec .pressTimerExpiry s = .next t ∧ t.clock = max s.clock (start + 153600)
        ∧ t.switch = { s.switch with
            press := .long, pressTimer := none, levelStep := some t.clock
            travel := some (match s.switch.travel with
              | none => if level < 500 then .up else .down
              | some .up => .down
              | some .down => .up) }
        ∧ (s.ClaimsBecome t fun _ c =>
            { c with switch := some { value := level, rule := { up := 250, down := 250 } } })
        ∧ s.OutputsKept t ∧ s.SameBut [.clock, .dim, .switch, .ranks] t)
    ∧ (s.switch.press = .long → s.switch.levelStep = some start → s.switch.level = some level →
      ∃ t, exec .levelStepExpiry s = .next t ∧ t.clock = max s.clock (start + 3840)
        ∧ t.switch = { s.switch with
            levelStep := some (start + 3840)
            level := some (match s.switch.travel with
              | some .up => min 1000 (level + 5)
              | some .down => level - 5
              | none => level) }
        ∧ (s.ClaimsBecome t fun _ c =>
            { c with
              switch := t.switch.level.map fun v =>
                { value := v, rule := { up := 250, down := 250 } } })
        ∧ s.OutputsKept t ∧ s.SameBut [.clock, .dim, .switch, .ranks] t)
    ∧ (s.switch.override = some start → s.switch.level.isSome = true →
      ∃ t, exec .overrideTimerExpiry s = .next t
        ∧ t.clock = max s.clock (start + 60 * s.img.overrideHours * 60 * 192000)
        ∧ t.switch = { s.switch with
            level := none, travel := none, override := none, levelStep := none
            press := if s.switch.press = .long then .spent else s.switch.press }
        ∧ (s.ClaimsBecome t fun _ c => { c with switch := none })
        ∧ s.OutputsKept t ∧ s.SameBut [.clock, .dim, .switch, .ranks] t)

/-! ## Row line -/

/-- ROW reads dominant while another peer pulls it or the station drives a dominant bit of its frame, one
bit a bit time from the start (R124). The line monitor follows that level: a fall makes IDLE BUSY and is a
start edge, a rise starts the recessive time, 14 recessive bit times outside a frame of the station's own
are an idle point, and 100 ms recessive end STUCK and take an ISLAND station to LISTEN (R125 to R128,
R191). The character under assembly is sampled on the way (R125); a start edge after an idle point
discards a frame abandoned before it (R132). Each own bit is read back at its sample point, half a bit time
after it begins: a recessive one that reads dominant while another peer pulls is read wrong, and there the
station stops driving and the receiver's `driving` is cleared (R125, R129, R163, R164). That own bits reach
ROW, and are read back, when a command of the line reads it is log 25.
Choices of the model it rests on: log 2, 25. -/
def Obligations.LineMonitorFollowsRow : Prop :=
  ∀ (s u w : State) (start k t : Nat) (f g : Flight), s.running = true → u = s.driveNow →
    w = u.sampleTo s.clock →
    (u.line.pulled = false → u.rowLow = false →
      ∃ v, exec .transitionToDominant s = .next v
        ∧ v.line = { pulled := true, state := if u.line.state = .idle then .busy else u.line.state
                     recessiveTime := none, dominantTime := some s.clock, releaseTime := none }
        ∧ (w.rx.assembles s.clock = true ∨ u.line.state = .stuck →
            v.rx = w.rx ∧ v.conditions = u.conditions)
        ∧ (w.rx.assembles s.clock = false → u.line.state ≠ .stuck →
            v.rx = { u.rx with
              char := some { start := s.clock, afterIdle := u.rx.afterIdle, samples := [] }
              afterIdle := false, ownStart := u.rx.ownStart && !u.rx.afterIdle
              state := if u.rx.afterIdle = true ∧ u.rx.frame.isSome = true then .search else u.rx.state
              frame := if u.rx.afterIdle = true then none else u.rx.frame }
            ∧ v.conditions
              = (if u.rx.afterIdle = true ∧ (u.rx.frame.any fun g => !g.touched) = true then
                  u.conditions ||| 0x0100#16 else u.conditions))
        ∧ u.SameBut [.line, .rx, .conditions] v)
    ∧ (u.line.pulled = false → u.rowLow = true →
      exec .transitionToDominant s = .next { w with line := { u.line with pulled := true } })
    ∧ (u.line.pulled = true → exec .transitionToDominant s = .next u)
    ∧ (u.line.pulled = true → State.rowLow { u with line := { u.line with pulled := false } } = false →
      exec .returnToRecessive s
        = .next { w with
            line := { pulled := false, state := u.line.state, recessiveTime := some s.clock
                      dominantTime := none
                      releaseTime := if u.line.state = .stuck then some s.clock else none } })
    ∧ (u.line.pulled = true → State.rowLow { u with line := { u.line with pulled := false } } = true →
      exec .returnToRecessive s = .next { w with line := { u.line with pulled := false } })
    ∧ (u.line.pulled = false → exec .returnToRecessive s = .next u)
    ∧ (u.line.state = .busy → u.line.recessiveTime = some start → u.drives = false →
      exec .idlePoint s
        = .next { u.advanceTo (start + 140) with
            line := { u.line with state := .idle }, rx := { u.rx with afterIdle := true } })
    ∧ (u.drives = true → exec .idlePoint s = .next u)
    ∧ (s.line.state = .stuck → s.line.releaseTime = some start →
      ∃ v, exec .lineRelease s = .next v ∧ v.clock = max s.clock (start + 19200)
        ∧ v.line = { s.line with state := .idle, releaseTime := none }
        ∧ v.rx = { s.rx with afterIdle := true }
        ∧ v.startUp = (if s.mode = .island then
              { s.startUp with mode := .listen, listen := some v.clock } else s.startUp)
        ∧ s.SameBut [.clock, .dim, .line, .rx, .startUp] v)
    ∧ (s.rowLow = true ↔ s.line.pulled = true
        ∨ ∃ g ∈ s.tx.flight, g.wrong = false ∧ ∃ j < g.driven, g.driven = j + 1 ∧ g.bit j = false)
    ∧ (s.drives = true ↔
        ∃ g ∈ s.tx.flight, g.wrong = false ∧ s.clock < g.start + 110 * g.chars.length)
    ∧ (k < 11 * f.chars.length →
        f.bit k = (charBits (f.chars.getD (k / 11) 0)).getLsbD (k % 11)
        ∧ (k < f.begunBy t ↔ f.start + 10 * k ≤ t))
    ∧ (s.tx.flight = none → u = s)
    ∧ (s.tx.flight = some f → f.wrong = true → u = s)
    ∧ (s.tx.flight = some f → f.wrong = false → u.tx.flight = some g →
        u.tx = { s.tx with flight := some g }
        ∧ g = { f with driven := g.driven, read := g.read, wrong := g.wrong }
        ∧ u.line.pulled = s.line.pulled
        ∧ s.SameBut [.line, .rx, .tx, .conditions] u
        ∧ (f.Sound →
            (g.wrong = true ↔ s.line.pulled = true
              ∧ ∃ j < 11 * f.chars.length, f.read ≤ j ∧ f.bit j = true ∧ f.start + 10 * j + 5 ≤ s.clock)
            ∧ (g.wrong = true →
                f.read ≤ g.read ∧ f.bit g.read = true ∧ f.start + 10 * g.read + 5 ≤ s.clock
                ∧ g.driven = g.read + 1 ∧ (∀ j < g.read, f.read ≤ j → f.bit j = false)
                ∧ (u.rx.frame.any fun x => x.driving) = false)
            ∧ (g.wrong = false →
                g.driven = max f.driven (f.begunBy s.clock)
                ∧ ∀ j < g.driven, (j < g.read ↔ j < f.read ∨ f.start + 10 * j + 5 ≤ s.clock)))
        ∧ (f.begunBy s.clock = f.driven + 1 → t = f.start + 10 * f.driven →
            f.read = f.driven ∨ s.rowLow = f.low →
            ((s.line.pulled || !f.bit f.driven) = s.rowLow → u.line = s.line)
            ∧ (s.rowLow = false → f.bit f.driven = false →
                u.line = { s.line with
                  state := if s.line.state = .idle then .busy else s.line.state
                  recessiveTime := none, dominantTime := some t, releaseTime := none })
            ∧ (s.rowLow = true → s.line.pulled = false → f.bit f.driven = true →
                u.line = { s.line with
                  dominantTime := none, recessiveTime := some t
                  releaseTime := if s.line.state = .stuck then some t else none })))

/-- Fifty milliseconds of dominance make the line STUCK and latch LINE_STUCK, then again every 50 ms; at
the entry the receiver drops what it has, LISTEN and ACTIVE become ISLAND (MUTE with a parting report
waiting) and the queue is emptied, CONFIG and MUTE stay. A service result in the queue goes with it, its
phase returning to IDLE; a RESTART's result so discarded begins its restart (R127, R167, R172, R182, R190
to R192). Only another peer holds ROW so long (log 25).
Choices of the model it rests on: log 2, 21, 25, 34. -/
def Obligations.HeldLineSticksAndIsolates : Prop :=
  ∀ (s u : State) (straps : BitVec 6) (start : Nat), s.running = true → s.ResultInv → u = s.driveNow →
    u.line.pulled = true → u.line.dominantTime = some start →
    ∃ t, exec (.dominantTimeout straps) s = .next t ∧ t.clock = max s.clock (start + 9600)
      ∧ t.line = { u.line with state := .stuck, dominantTime := some (start + 9600) }
      ∧ t.pins = { s.pins with straps := straps }
      ∧ (u.line.state = .stuck → t.conditions = u.conditions ||| 0x0010#16
          ∧ t.startUp = s.startUp ∧ t.tx = u.tx ∧ t.rx = u.rx
          ∧ u.SameBut [.clock, .dim, .line, .conditions, .pins] t)
      ∧ (u.line.state ≠ .stuck →
          (s.mode = .active → s.service.phase = .resultPending → s.service.restartWaits = true →
            State.RestartBegins
              { u with
                clock := max s.clock (start + 9600), pins := { s.pins with straps := straps }
                dim := t.dim, line := { u.line with state := .stuck, dominantTime := some (start + 9600) }
                conditions := u.conditions ||| 0x0010#16
                rx := { u.rx with state := .search, frame := none, char := none } }
              t straps)
          ∧ (s.mode ≠ .active ∨ s.service.phase ≠ .resultPending ∨ s.service.restartWaits = false →
            t.conditions = u.conditions ||| 0x0010#16
            ∧ t.rx = { u.rx with state := .search, frame := none, char := none }
            ∧ (s.mode = .listen →
                t.startUp = { s.startUp with mode := .island, listen := none } ∧ t.tx = u.tx
                ∧ t.service = s.service)
            ∧ (s.mode = .active →
                t.startUp = { s.startUp with mode := if s.tx.parting = true then .mute else .island }
                ∧ t.tx = { s.tx with
                    queue := [], contention := .txIdle, flight := none, heldFull := false
                    report := none, parting := false }
                ∧ t.service = (if s.service.phase = .resultPending then
                    { s.service with phase := .idle, pending := none } else s.service))
            ∧ (s.mode ≠ .listen → s.mode ≠ .active →
                t.startUp = s.startUp ∧ t.tx = u.tx ∧ t.service = s.service)
            ∧ u.SameBut [.clock, .dim, .line, .conditions, .rx, .startUp, .tx, .pins, .service] t))

/-- A character has 11 sample points, half a bit time after its start edge and a bit time apart, each
taking the level ROW then has (R125), and its samples are judged as R124 and R125 give. CHARACTER_END
forgets a glitch at its first sample and otherwise hands the judgement to the frame assembly 11 bit times
after the start edge, the recessive time starting again after a recessive stop bit (R126, R129); its
operand is the samples that ROW gave, and with others it changes nothing (log 3). A sync character after
an idle point opens a frame; a bad character, a header that does not fit, a length above 48 or a wrong CRC
discards the frame under assembly (R129 to R132). So do 20 recessive bit times, and a cause of its own;
the discard latches RX_FRAME_ERROR unless the kind was unknown or this station touched the frame (R132).
Choices of the model it rests on: log 2, 3, 13, 25. -/
def Obligations.ReceiverTakesCharactersAndDiscards : Prop :=
  ∀ (s u w z : State) (v hi : Byte) (x : BitVec 11) (xs : List Bool) (straps : BitVec 6)
    (c d : RxChar) (low afterIdle : Bool) (cause : DiscardCause) (k t start : Nat) (f : RxFrame)
    (j : Judgement),
    judgeSamples (charBits v) = .good v
    ∧ ((charBits v).getLsbD 0 = false ∧ (charBits v).getLsbD 10 = true
        ∧ (∀ i < 8, (charBits v).getLsbD (i + 1) = v.getLsbD i))
    ∧ (x.getLsbD 0 = true → judgeSamples x = .glitch)
    ∧ (x.getLsbD 0 = false → x.getLsbD 10 = false →
        judgeSamples x = (if x.extractLsb' 1 8 = 0#8 then .break_ else .framingError))
    ∧ (x.getLsbD 0 = false → x.getLsbD 10 = true →
        judgeSamples x
          = (if ((List.range 9).filter fun i => x.getLsbD (i + 1)).length % 2 = 0 then
              .good (x.extractLsb' 1 8)
             else .parityError))
    ∧ (xs.length = 11 → ∀ i < 11, (samplesWord xs).getLsbD i = xs.getD i false)
    ∧ ((c.sampledTo t low).start = c.start ∧ (c.sampledTo t low).afterIdle = c.afterIdle
        ∧ (c.sampledTo t low).samples
          = c.samples ++ List.replicate (pointsBy c.start t - c.samples.length) (!low))
    ∧ (k < 11 → (k < pointsBy c.start t ↔ c.start + 5 + 10 * k ≤ t))
    ∧ pointsBy c.start t ≤ 11
    ∧ s.sampleTo t = { s with rx := { s.rx with char := s.rx.char.map fun e => e.sampledTo t s.rowLow } }
    ∧ (s.running = true → s.rx.char = none → exec (.characterEnd x straps) s = .next s)
    ∧ (s.running = true → s.rx.char = some c →
        w = State.sampleTo
          (State.driveTo { s.advanceTo (c.start + 5) with pins := { s.pins with straps := straps } }
            (c.start + 5)) (c.start + 5) →
        ((∃ e ∈ w.rx.char, e.samples.head? = some true) →
          exec (.characterEnd x straps) s = .next { w with rx := { w.rx with char := none } })
        ∧ ((∀ e ∈ w.rx.char, e.samples.head? ≠ some true) →
          u = State.sampleTo (State.driveTo (w.advanceTo (c.start + 110)) (c.start + 109)) (c.start + 110) →
          u.rx.char = some d →
          (samplesWord d.samples = x →
            z = State.takeChar
              { u with
                rx := { u.rx with char := none }
                line :=
                  if x.getLsbD 10 = true ∧ u.rowLow = false then
                    { u.line with recessiveTime := some u.clock }
                  else u.line }
              d.afterIdle (judgeSamples x) →
            exec (.characterEnd x straps) s = .next (if u.drives = true then z.driveNow else z))
          ∧ (samplesWord d.samples ≠ x → exec (.characterEnd x straps) s = .next s)))
    ∧ (s.rx.frame = none →
        s.takeChar afterIdle (.good v)
          = (if v = 0xA7#8 ∧ afterIdle = true then
              { s with rx := { s.rx with
                  state := .header
                  frame := some
                    { access := none, kindSeq := none, length := none, body := [], crc := 0xFFFF#16
                      check := none, driving := s.rx.ownStart && s.tx.flight.any (fun g => !g.wrong)
                      touched := s.rx.ownStart } } }
             else s)
        ∧ (j = .parityError ∨ j = .framingError ∨ j = .break_ → s.takeChar afterIdle j = s))
    ∧ (s.rx.frame = some f →
        w = { s with
              rx := { s.rx with state := .search, frame := none }
              conditions := if f.touched = true then s.conditions else s.conditions ||| 0x0100#16 } →
        (j = .parityError ∨ j = .framingError ∨ j = .break_ → s.takeChar afterIdle j = w)
        ∧ (∀ a, s.rx.state = .header → f.access = some a → f.kindSeq = none →
            (v.toNat / 16 = 0 ∨ 6 ≤ v.toNat / 16 →
              s.takeChar afterIdle (.good v)
                = { s with rx := { s.rx with state := .search, frame := none } })
            ∧ (1 ≤ v.toNat / 16 → v.toNat / 16 ≤ 5 →
                a.toNat / 64 ≠ classOf (v.toNat / 16)
                  ∨ (v.toNat / 16 = 4 ∧ a.toNat % 64 ≠ 63) ∨ (v.toNat / 16 ≠ 4 ∧ a.toNat % 64 = 63) →
              s.takeChar afterIdle (.good v) = w))
        ∧ (s.rx.state = .header → f.access.isSome = true → f.kindSeq.isSome = true → 48 < v.toNat →
            s.takeChar afterIdle (.good v) = w)
        ∧ (s.rx.state = .check → f.check = some hi → hi.toNat * 256 + v.toNat ≠ f.crc.toNat →
            s.takeChar afterIdle (.good v) = w))
    ∧ (s.running = true → u = s.driveNow → u.drives = false → u.rx.frame = some f →
        u.line.recessiveTime = some start →
      exec .rxGapTimeout s
        = .next { u.advanceTo (start + 200) with
            rx := { u.rx with state := .search, frame := none }
            conditions := if f.touched = true then u.conditions else u.conditions ||| 0x0100#16 })
    ∧ (s.running = true → s.rx.frame = some f →
      exec (.rxFrameDiscard cause) s
        = .next { s with
            rx := { s.rx with state := .search, frame := none }
            conditions := if cause = .unknownKind ∨ f.touched = true then s.conditions
                          else s.conditions ||| 0x0100#16 })
    ∧ (s.running = true → s.rx.frame = none → exec (.rxFrameDiscard cause) s = .next s)

/-! ## Transmit scheduler -/

/-- What falls due changes the report marker as R156's table gives, while ACTIVE with no parting report
waiting, and nothing otherwise; the report timer makes a FULL due at each multiple of P (R155 to R157,
R167). A notice offered replaces a waiting one of its identity, and a third makes the oldest waiting leave
(R159); an entry joins behind those of its class (R155). What the comparison of a tick asks is R158's
list. A DELTA marker in flight holds a FULL over when its frame is a DELTA REPORT. When its frame is a
FULL REPORT it is judged as a full report for the rest of its attempt and becomes FULL at once, so that
report answers if it completes, and the marker's next attempt if not (R156, R162; log 16).
Choices of the model it rests on: log 2, 16. -/
def Obligations.FallingDueChangesReportMarker : Prop :=
  ∀ (s : State) (m e : QueueEntry) (start o n : Nat) (q a b : List QueueEntry) (p r : Published),
    (s.mode ≠ .active ∨ s.tx.parting = true → s.fullDue = s ∧ s.deltaDue = s)
    ∧ (s.mode = .active → s.tx.parting = false →
      (s.tx.queue.find? QueueEntry.isMarker = none →
        s.fullDue
          = { s with tx := { s.tx with
                queue := insertEntry s.tx.queue
                  { kind := .full, entryTime := s.now, attempts := 0, inFlight := false }
                contention := if s.tx.contention = .txIdle then .waitIdle else s.tx.contention } }
        ∧ s.deltaDue
          = { s with tx := { s.tx with
                queue := insertEntry s.tx.queue
                  { kind := .delta, entryTime := s.now, attempts := 0, inFlight := false }
                contention := if s.tx.contention = .txIdle then .waitIdle else s.tx.contention } })
      ∧ (s.tx.queue.find? QueueEntry.isMarker = some m →
          s.deltaDue = s
          ∧ (m.kind = .full → s.fullDue = s)
          ∧ (m.kind = .delta → m.inFlight = false ∨ (∃ f ∈ s.tx.flight, f.asFull = true) →
              s.fullDue = { s with tx := { s.tx with
                queue := s.tx.queue.map fun e => if e.kind = .delta then { e with kind := .full } else e } })
          ∧ (m.kind = .delta → m.inFlight = true → (∀ f ∈ s.tx.flight, f.asFull = false) →
              s.fullDue = { s with tx := { s.tx with heldFull := true } })))
    ∧ (s.mode ≠ .active ∨ s.tx.parting = true → s.offerNotice o n = s)
    ∧ (s.mode = .active → s.tx.parting = false →
        q = s.tx.queue.filter (fun x => ¬(x.kind = .notice o n ∧ x.inFlight = false)) →
        e = { kind := .notice o n, entryTime := s.now, attempts := 0, inFlight := false } →
      ((q.filter QueueEntry.isNotice).length < 2 →
        s.offerNotice o n = { s with tx := { s.tx with
          queue := insertEntry q e
          contention := if s.tx.contention = .txIdle then .waitIdle else s.tx.contention } })
      ∧ (2 ≤ (q.filter QueueEntry.isNotice).length → q = a ++ m :: b →
          (∀ x ∈ a, x.isNotice = true → x.inFlight = true) → m.isNotice = true → m.inFlight = false →
        s.offerNotice o n = { s with tx := { s.tx with
          queue := insertEntry (a ++ b) e
          contention := if s.tx.contention = .txIdle then .waitIdle else s.tx.contention } }))
    ∧ ((∀ x ∈ a, x.kind.frameClass ≤ e.kind.frameClass) →
        (∀ x ∈ b, e.kind.frameClass < x.kind.frameClass) → insertEntry (a ++ b) e = a ++ e :: b)
    ∧ ((EntryKind.notice o n).frameClass = 0 ∧ (∀ body, (EntryKind.result body).frameClass = 1)
        ∧ EntryKind.full.frameClass = 2 ∧ EntryKind.delta.frameClass = 3)
    ∧ (worthDelta p r = true ↔ p.MovedFrom r)
    ∧ (s.running = true → s.tx.report = some start →
      exec .reportTimerExpiry s
        = .next (State.fullDue
            { s.advanceTo (start + s.img.period * 192000) with
              tx := { s.tx with report := some (start + s.img.period * 192000) } }))

/-- An attempt on the IDLE line composes the head from the state as it stands, puts it in flight with its
start bit on ROW, and starts ARBITRATING; a head with nothing to send is dropped and the next is judged. A
DELTA marker is composed as each differing field in ascending order of tag and the want list, as a whole
report, or as nothing. A report carries the published record, a parting report with mode MUTE and
DUPLICATE_POSITION; a front notice carries its record's identity, direction, magnitude, pace and
sightings, each with its age in units of 10 ms, rounded down and at most 65,535 (R22, R83, R124, R137,
R140, R145, R161, R162). ROW falls as at a peer's transition (`peersPull`).
Choices of the model it rests on: log 19, 25, 33. -/
def Obligations.AttemptComposesHeadOfQueue : Prop :=
  ∀ (s u : State) (e : QueueEntry) (rest : List QueueEntry) (d : Delta) (p b : Published)
    (g : FrontRecord) (now : Time),
    (s.running = true → s.mode = .active → s.tx.contention = .waitIdle → s.line.state = .idle →
        s.line.pulled = false → s.tx.flight = none → s.tx.queue = e :: rest → u = s.peersPull true →
      exec .transitionToDominant s = .next u
      ∧ ((e.kind = .full ∨ (e.kind = .delta ∧ planDelta s.publishedRecord s.tx.basis = .full)) →
        exec .attemptStart s = .next (s.sends u e rest
          { start := s.clock
            chars := frameChars 1 s.own ((s.tx.seq + 1) % 16) (fullBody s.publishedRecord)
            seq := (s.tx.seq + 1) % 16, report := some s.publishedRecord, driven := 1
            read := 0, wrong := false, asFull := true }))
      ∧ (e.kind = .delta → planDelta s.publishedRecord s.tx.basis = .delta d →
        exec .attemptStart s = .next (s.sends u e rest
          { start := s.clock
            chars := frameChars 2 s.own ((s.tx.seq + 1) % 16) (deltaBody d)
            seq := (s.tx.seq + 1) % 16, report := some s.publishedRecord, driven := 1
            read := 0, wrong := false, asFull := false }))
      ∧ (∀ body, e.kind = .result body →
        exec .attemptStart s = .next (s.sends u e rest
          { start := s.clock, chars := frameChars 5 s.own 0 body, seq := 0, report := none
            driven := 1, read := 0, wrong := false, asFull := false }))
      ∧ (∀ o n f, e.kind = .notice o n → (s.now - e.entryTime).toNat ≤ 2000 →
          findFront s.fronts.table o n = some f →
        exec .attemptStart s = .next (s.sends u e rest
          { start := s.clock, chars := frameChars 3 s.own 0 (noticeBody (f.toNotice s.now)), seq := 0
            report := none, driven := 1, read := 0, wrong := false, asFull := false }))
      ∧ (((∃ o n, e.kind = .notice o n
              ∧ (2000 < (s.now - e.entryTime).toNat ∨ findFront s.fronts.table o n = none))
            ∨ (e.kind = .delta ∧ planDelta s.publishedRecord s.tx.basis = .nothing)) →
        exec .attemptStart s = exec .attemptStart { s with tx := { s.tx with queue := rest } }
        ∧ (rest = [] →
          exec .attemptStart s = .next { s with tx := { s.tx with queue := [], contention := .txIdle } })))
    ∧ s.publishedRecord
        = { mode := if s.tx.parting = true then .mute else s.mode
            reading := s.levelling.reading, readingState := s.levelling.readingState
            goal := s.levelling.published, occupancy := s.occ.state
            override := s.switch.level.isSome
            held := decide (s.service.hold = .held ∨ s.service.hold = .stepping)
            conditions := if s.tx.parting = true then s.conditions ||| 0x0020#16 else s.conditions
            want := s.rows.want }
    ∧ planDelta p none = .full
    ∧ (planDelta p (some b) = .nothing ↔ p = b)
    ∧ (planDelta p (some b) = .delta d →
        d.apply b = p ∧ 1 ≤ d.fields.length ∧ d.fields.length ≤ 6
        ∧ (d.fields.map DeltaField.tag).Pairwise (· < ·))
    ∧ (planDelta p (some b) = .full ↔
        6 < (differingFields p b).length ∨ (differingFields p b = [] ∧ p.want ≠ b.want))
    ∧ g.toNotice now
        = { origin := g.origin, serial := g.serial, direction := g.direction, magnitude := g.magnitude
            pace := g.pace
            sightings := g.sightings.map fun x =>
              { pos := x.pos, age := min 65535 ((since now x.time).toNat / 10) } }

/-- A loss, a recessive bit of the sync or access character read back dominant, costs nothing and leaves
the entry waiting; both characters read back right make the state SENDING; a garble, a bit read back
wrong in SENDING or a dominant one misread for a fault, raises the entry's count, and at the fourth the
entry is dropped with TX_GARBLE latched; a held-over FULL takes effect on a waiting marker and goes with a
dropped one (R156, R163, R164). Each falls at the bit's sample point, and where no bit reads back so the
command changes nothing (log 3, 25). A dropped result returns the phase to IDLE or begins a RESTART's
restart, and a dropped parting report takes the station to MUTE (R137, R164, R167, R172, R182). The station
leaves ROW to the other peers and its receiver's `driving` is cleared (R129, R163).
Choices of the model it rests on: log 2, 3, 21, 22, 25, 34. -/
def Obligations.LossAndGarbleReturnToQueue : Prop :=
  ∀ (s m u v w : State) (straps : BitVec 6) (e : QueueEntry) (f g : Flight), s.running = true →
    s.tx.inFlight = some e → s.tx.flight = some f → u = m.releaseRow →
    w = { u with
          pins := { s.pins with straps := straps }
          conditions := u.conditions ||| 0x0080#16
          rx := u.rx.notDriving
          tx := { s.tx with
            flight := none, heldFull := s.tx.heldFull && !e.isMarker
            queue := landed (s.tx.queue.filter fun x => !x.inFlight)
            contention := if (s.tx.queue.filter fun x => !x.inFlight).isEmpty then .txIdle
                          else .waitIdle } } →
    (s.ReadsWrong m f 22 ∨ s.Garbles m f →
      u.tx = { s.tx with flight := none } ∧ u.line.pulled = s.line.pulled ∧ u.rowLow = s.line.pulled
      ∧ s.SameBut [.clock, .dim, .line, .rx, .tx, .conditions] u)
    ∧ (s.tx.contention = .arbitrating →
      (s.ReadsWrong m f 22 →
        exec .arbitrationLoss s
          = .next { u with
              rx := u.rx.notDriving
              tx := { s.tx with
                flight := none, contention := .waitIdle, heldFull := s.tx.heldFull && !e.isMarker
                queue := if s.tx.heldFull = true ∧ e.isMarker = true then
                    (landed s.tx.queue).map upgradeMarker else landed s.tx.queue } })
      ∧ ((∀ x ∈ (s.driveTo (f.start + 220)).tx.flight, x.wrong = true → 22 ≤ x.read) →
        exec .arbitrationLoss s = .next s))
    ∧ (s.tx.contention = .arbitrating → v = (s.advanceTo (f.start + 215)).driveTo (f.start + 215) →
        v.tx.flight = some g →
      (22 ≤ g.read →
        exec .arbitrationWon s = .next { v with tx := { v.tx with contention := .sending } })
      ∧ (g.read < 22 → exec .arbitrationWon s = .next s)
      ∧ (s.line.pulled = false → f.Sound → f.wrong = false → 2 ≤ f.chars.length → 22 ≤ g.read))
    ∧ (s.Garbles m f → e.attempts < 3 →
      exec (.garble straps) s
        = .next { u with
            pins := { s.pins with straps := straps }
            rx := u.rx.notDriving
            tx := { s.tx with
              flight := none, contention := .waitIdle, heldFull := s.tx.heldFull && !e.isMarker
              queue := if s.tx.heldFull = true ∧ e.isMarker = true then
                  (landed (s.tx.queue.map countGarble)).map upgradeMarker
                else landed (s.tx.queue.map countGarble) } })
    ∧ (s.Garbles m f → 3 ≤ e.attempts →
      ((e.isMarker = true → s.tx.parting = false) → e.isResult = false →
        exec (.garble straps) s = .next w)
      ∧ (e.isResult = true → s.service.phase = .resultPending → s.service.restartWaits = false →
        exec (.garble straps) s
          = .next { w with service := { s.service with phase := .idle, pending := none } })
      ∧ (e.isResult = true → s.service.phase = .resultPending → s.service.restartWaits = true →
        ∃ t, exec (.garble straps) s = .next t ∧ w.RestartBegins t straps)
      ∧ (e.isMarker = true → s.tx.parting = true → (s.tx.queue.filter fun x => !x.inFlight) = [] →
        exec (.garble straps) s
          = .next { w with
              startUp := { s.startUp with mode := .mute }
              tx := { s.tx with
                queue := [], contention := .txIdle, flight := none, heldFull := false, report := none
                parting := false } }))
    ∧ (s.garbleMoment = some m ↔ s.Garbles m f)
    ∧ (s.garbleMoment = none → exec (.garble straps) s = .next s)

/-- A frame all of whose bits read back right, the last stop bit included, completes: it leaves the queue and
the state becomes DEFER, a report commits its sequence, its record and the time, a held-over FULL joins as a
new marker, a result ends its request or begins a RESTART's restart, and a parting report takes the station
to MUTE; DEFER ends after 40 recessive bit times (R137, R156, R165 to R167, R172, R182). The recessive time
starts at the end of the frame, and the receiver is in SEARCH (R126, R134). Where a bit read back wrong no
frame completes and nothing changes (log 3, 25), and none does while no other peer pulls ROW.
Choices of the model it rests on: log 2, 3, 21, 22, 25, 34. -/
def Obligations.CompletedFrameCommitsAndDefers : Prop :=
  ∀ (s v u : State) (straps : BitVec 6) (e : QueueEntry) (f g : Flight) (start : Nat),
    (s.running = true →
      s.tx.contention = .sending → s.tx.inFlight = some e → s.tx.flight = some f →
      v = (s.advanceTo (f.start + 110 * f.chars.length)).driveNow →
      v.tx.flight = some g → 11 * f.chars.length ≤ g.read →
      u = { v with
            pins := { s.pins with straps := straps }
            rx := { v.rx with state := .search, char := none, frame := none, ownStart := false }
            line := if v.line.pulled = true then v.line else { v.line with recessiveTime := some v.clock }
            tx := { s.tx with
              queue := s.tx.queue.filter (fun x => !x.inFlight), flight := none, contention := .defer } } →
      (s.tx.heldFull = false →
        (e.isMarker = true → s.tx.parting = false → ∀ p, f.report = some p →
          exec (.frameComplete straps) s
            = .next { u with tx := { u.tx with seq := f.seq, basis := some p, lastDone := some u.now } })
        ∧ (e.isMarker = false → e.isResult = false → f.report = none →
          exec (.frameComplete straps) s = .next u)
        ∧ (e.isResult = true → f.report = none → s.service.phase = .resultPending →
            s.service.restartWaits = false →
          exec (.frameComplete straps) s
            = .next { u with service := { s.service with phase := .idle, pending := none } })
        ∧ (e.isResult = true → f.report = none → s.service.phase = .resultPending →
            s.service.restartWaits = true →
          ∃ t, exec (.frameComplete straps) s = .next t ∧ u.RestartBegins t straps)
        ∧ (e.isMarker = true → s.tx.parting = true → ∀ p, f.report = some p →
            (s.tx.queue.filter fun x => !x.inFlight) = [] →
          exec (.frameComplete straps) s
            = .next { u with
                startUp := { s.startUp with mode := .mute }
                tx := { u.tx with
                  seq := f.seq, basis := some p, lastDone := some u.now
                  contention := .txIdle, report := none, parting := false } }))
      ∧ (s.tx.heldFull = true → e.isMarker = true → s.mode = .active → s.tx.parting = false →
          (∀ x ∈ s.tx.queue, x.isMarker = true → x.inFlight = true) → ∀ p, f.report = some p →
        exec (.frameComplete straps) s
          = .next { u with tx := { u.tx with
              seq := f.seq, basis := some p, lastDone := some u.now, heldFull := false
              queue := insertEntry (s.tx.queue.filter fun x => !x.inFlight)
                { kind := .full, entryTime := u.now, attempts := 0, inFlight := false } } }))
    ∧ (s.running = true →
        s.tx.contention = .sending → s.tx.inFlight = some e → s.tx.flight = some f →
        v = (s.advanceTo (f.start + 110 * f.chars.length)).driveNow → v.tx.flight = some g →
      (g.read < 11 * f.chars.length → exec (.frameComplete straps) s = .next s)
      ∧ (s.line.pulled = false → f.Sound → f.wrong = false → 11 * f.chars.length ≤ g.read))
    ∧ (s.running = true → s.tx.contention = .defer → s.line.recessiveTime = some start →
      exec .deferTimeout s
        = .next { s.advanceTo (start + 400) with
            tx := { s.tx with contention := if s.tx.queue.isEmpty then .txIdle else .waitIdle } })

/-! ## Service engine -/

/-- QUERY STATE, READ ENTRY and READ FRONTS answer DONE with data of the state as it stands, and change
nothing else; where the queue refuses the result they do the same and it is dropped. SNAPSHOT LOAD
captures a 256-byte image, and SNAPSHOT SHIFT returns its eight segments of 32 bytes in turn, then END, or
REFUSED_STATE with no image (R150 to R154, R160, R169 to R172, R179, R180). The data of QUERY STATE, the
front summaries, an entry's record and the image show every field at the offset R145 and R150 to R154 give
it, coded as R143 gives, and the image's last byte is the sum of the others (R154). That an image loaded
in DEFER shows DEFER is log 39; SWITCH and VACANCY are shown with the value of the first rank that holds
them (log 17). That the bits no field names hold 0, in the first byte of QUERY STATE, the chain byte of
READ ENTRY and the image, is the model's choice (log 43).
Choices of the model it rests on: log 12, 17, 31, 39, 43. -/
def Obligations.ReadingAndSnapshotRequestsAnswerData : Prop :=
  ∀ (s : State) (q : Request) (p : Byte) (image : List Byte) (record : Published) (x y : Nat),
    (s.Serves q →
      (q.params = [] →
        exec (.queryState q) s
          = .next (s.heard.answering (pendingOf 1#8 q) 0 false s.heard.queryData).deferOver
        ∧ exec (.readFronts q) s
          = .next (s.heard.answering (pendingOf 11#8 q) 0 false s.heard.frontsData).deferOver
        ∧ exec (.snapshotLoad q) s
          = .next (State.answering
              { s.heard with
                service := { s.service with snapshot := some s.heard.snapshotImage, shiftIndex := 0 } }
              (pendingOf 8#8 q) 0 false [1#8, 0#8, 8#8]).deferOver
        ∧ (s.service.snapshot = none →
          exec (.snapshotShift q) s = .next (s.heard.answering (pendingOf 9#8 q) 1 false []).deferOver)
        ∧ (s.service.snapshot = some image → s.service.shiftIndex < 8 →
          exec (.snapshotShift q) s
            = .next (State.answering
                { s.heard with service := { s.service with shiftIndex := s.service.shiftIndex + 1 } }
                (pendingOf 9#8 q) 0 false
                (byte s.service.shiftIndex
                  :: (image.drop (32 * s.service.shiftIndex)).take 32)).deferOver)
        ∧ (s.service.snapshot = some image → 8 ≤ s.service.shiftIndex →
          exec (.snapshotShift q) s = .next (s.heard.answering (pendingOf 9#8 q) 0 true []).deferOver))
      ∧ (q.params = [p] → p.toNat ≤ 62 →
        exec (.readEntry q) s
          = .next (s.heard.answering (pendingOf 10#8 q) 0 false
              ([p, byte (s.rows.entry p.toNat).status.code,
                byte ((s.rows.entry p.toNat).lastSeq
                  + (if (s.rows.entry p.toNat).baseValid = true then 16 else 0))]
                ++ fullBody (s.rows.entry p.toNat).record)).deferOver))
    ∧ (s.ServesUnanswered q →
      (q.params = [] →
        exec (.queryState q) s = .next s.heard.unanswered.deferOver
        ∧ exec (.readFronts q) s = .next s.heard.unanswered.deferOver
        ∧ exec (.snapshotLoad q) s
          = .next (State.unanswered
              { s.heard with
                service := { s.service with
                  snapshot := some s.heard.snapshotImage, shiftIndex := 0 } }).deferOver
        ∧ (s.service.snapshot = none ∨ 8 ≤ s.service.shiftIndex →
          exec (.snapshotShift q) s = .next s.heard.unanswered.deferOver)
        ∧ (s.service.snapshot = some image → s.service.shiftIndex < 8 →
          exec (.snapshotShift q) s
            = .next (State.unanswered
                { s.heard with
                  service := { s.service with shiftIndex := s.service.shiftIndex + 1 } }).deferOver))
      ∧ (q.params = [p] → p.toNat ≤ 62 →
        exec (.readEntry q) s = .next s.heard.unanswered.deferOver))
    ∧ s.QueryShows s.queryData
    ∧ s.FrontsShown s.frontsData
    ∧ (fullBody record).length = 14 + record.want.length ∧ RecordShown (fullBody record) 0 record
    ∧ s.snapshotImage.length = 256
    ∧ s.ImageFirstShown s.snapshotImage
    ∧ s.ImageSecondShown s.snapshotImage
    ∧ [Mode.config, .listen, .active, .island, .mute].map Mode.code = [0, 1, 2, 3, 4]
    ∧ [Hold.running, .held, .stepping, .runToMatch].map Hold.code = [0, 1, 2, 3]
    ∧ [none, some HoldCause.request, some .stepDone, some .matched].map holdCauseCode = [0, 1, 2, 3]
    ∧ [ReadingState.own, .borrowed, .unavailable].map ReadingState.code = [0, 1, 2]
    ∧ [none, some Quality.good, some .saturated, some .settling, some .absent, some .fault].map worstCode
        = [0, 1, 2, 3, 4, 5]
    ∧ [Quality.good, .saturated, .settling, .absent, .fault].map Quality.code = [1, 2, 3, 4, 5]
    ∧ [Occupancy.unknown, .occupied, .vacant].map Occupancy.code = [0, 1, 2]
    ∧ [none, some ClaimKind.serviceForce, some .switch, some .vacancy, some .front, some .levelling,
        some .fallback].map claimCode = [0, 1, 2, 3, 4, 5, 6]
    ∧ [RampState.still, .rising, .falling, .frozen].map RampState.code = [0, 1, 2, 3]
    ∧ [Direction.unknown, .towardHigher, .towardLower].map Direction.code = [0, 1, 2]
    ∧ [FrontState.watching, .approaching, .preRaise, .passed, .missed].map FrontState.code
        = [0, 1, 2, 3, 4]
    ∧ [Status.absent, .fresh, .stale, .lost].map Status.code = [0, 1, 2, 3]
    ∧ [LineState.idle, .busy, .stuck].map LineState.code = [0, 1, 2]
    ∧ [RxState.search, .header, .body, .check].map RxState.code = [0, 1, 2, 3]
    ∧ [Contention.txIdle, .waitIdle, .defer, .arbitrating, .sending].map Contention.code
        = [0, 1, 2, 3, 4]
    ∧ [Press.none, .timing, .long, .spent].map Press.code = [0, 1, 2, 3]
    ∧ [none, some Travel.up, some .down].map travelCode = [0, 1, 2]
    ∧ (x < 4096 → y < 4096 → pairAt (pairField x y) 0 = (x, y) ∧ (pairField x y).length = 3)

/-- HOLD freezes a running station and leaves a HELD one; RELEASE ends the freeze with a re-choice; STEP
starts a step from HELD, its result waiting for the step's end, and is refused elsewhere; broadcasts do
the same without a result, and a unicast request whose result the queue refuses does it too (R91, R92,
R96, R173, R174). In STEPPING, HOLD holds the station again and RELEASE sets it running, STEP is refused,
and a unicast step that they end is answered DONE: at the HOLD, at the RELEASE after the step's tick, or
at the next levelling tick when the tick has not run (R175). A step ended by a HOLD after its tick ends with
tick done yes (R175), the rest of its record standing too, where no rule empties it (log 40). That the match
record is empty once RUN TO MATCH has ended is the model's choice (log 41).
Choices of the model it rests on: log 2, 12, 26, 27, 40, 41. -/
def Obligations.HoldReleaseAndStepMoveHoldState : Prop :=
  ∀ (s h g : State) (q : Request) (p : Pending) (start : Nat) (r : Rank), q.params = [] →
    h = State.freezeRamps
      { s.heard with
        service := { s.service with
          hold := .held, cause := some .request, matching := none } } →
    g = State.endFreeze
      { s.heard with
        service := { s.service with
          hold := .running, cause := none, matching := none } } →
    (s.service.hold = .running ∨ s.service.hold = .runToMatch →
        (s.Serves q →
          exec (.hold q) s = .next (h.answering (pendingOf 2#8 q) 0 false []).deferOver
          ∧ exec (.step q) s = .next (s.heard.answering (pendingOf 4#8 q) 1 false []).deferOver)
        ∧ (s.ServesUnanswered q → exec (.hold q) s = .next h.unanswered.deferOver
          ∧ exec (.step q) s = .next s.heard.unanswered.deferOver)
        ∧ (s.ServesAll q → exec (.hold q) s = .next h.deferOver
          ∧ exec (.step q) s = .next s.heard.deferOver))
    ∧ (s.service.hold = .held →
        (s.Serves q →
          exec (.hold q) s = .next (s.heard.answering (pendingOf 2#8 q) 0 false []).deferOver
          ∧ exec (.step q) s
            = .next (State.deferOver
                { s.heard with
                  service := { s.service with
                    phase := .executing, pending := some (pendingOf 4#8 q)
                    hold := .stepping, cause := none
                    step := { tickDone := false, count := 0, unicast := true } } }))
        ∧ (s.ServesUnanswered q → exec (.hold q) s = .next s.heard.unanswered.deferOver
          ∧ exec (.step q) s
            = .next (State.deferOver
                { s.heard with
                  service := { s.service with
                    phase := .executing, pending := some (pendingOf 4#8 q)
                    hold := .stepping, cause := none
                    step := { tickDone := false, count := 0, unicast := true } } }))
        ∧ (s.ServesAll q → exec (.hold q) s = .next s.heard.deferOver
          ∧ exec (.step q) s
            = .next (State.deferOver
                { s.heard with
                  service := { s.service with
                    hold := .stepping, cause := none
                    step := { tickDone := false, count := 0, unicast := false } } })))
    ∧ (s.service.hold = .running →
        (s.Serves q →
          exec (.release q) s = .next (s.heard.answering (pendingOf 3#8 q) 0 false []).deferOver)
        ∧ (s.ServesUnanswered q → exec (.release q) s = .next s.heard.unanswered.deferOver)
        ∧ (s.ServesAll q → exec (.release q) s = .next s.heard.deferOver))
    ∧ (s.service.hold = .held ∨ s.service.hold = .runToMatch →
        (s.Serves q →
          exec (.release q) s = .next (g.answering (pendingOf 3#8 q) 0 false []).deferOver)
        ∧ (s.ServesUnanswered q → exec (.release q) s = .next g.unanswered.deferOver)
        ∧ (s.ServesAll q → exec (.release q) s = .next g.deferOver))
    ∧ (s.service.hold = .stepping →
        (s.Serves q →
          exec (.step q) s = .next (s.heard.answering (pendingOf 4#8 q) 1 false []).deferOver)
        ∧ (s.ServesUnanswered q → exec (.step q) s = .next s.heard.unanswered.deferOver)
        ∧ (s.ServesAll q → exec (.step q) s = .next s.heard.deferOver)
        ∧ (s.service.step.unicast = false →
          (s.ServesUnanswered q →
            exec (.hold q) s = .next h.unanswered.deferOver
            ∧ exec (.release q) s = .next g.unanswered.deferOver)
          ∧ (s.Serves q →
            exec (.hold q) s = .next (h.answering (pendingOf 2#8 q) 0 false []).deferOver
            ∧ exec (.release q) s = .next (g.answering (pendingOf 3#8 q) 0 false []).deferOver)
          ∧ (s.ServesAll q →
            exec (.hold q) s = .next h.deferOver ∧ exec (.release q) s = .next g.deferOver))
        ∧ (s.service.step.unicast = true → s.service.pending = some p → s.ServesAll q →
            s.mode = .active → s.tx.parting = false →
          exec (.hold q) s = .next (h.answering p 0 false []).deferOver
          ∧ (s.service.step.tickDone = true →
              exec (.release q) s = .next (g.answering p 0 false []).deferOver))
        ∧ (s.service.step.unicast = true → s.service.pending = some p → s.ServesAll q →
            s.mode ≠ .active ∨ s.tx.parting = true → p.restarts = false →
          exec (.hold q) s
              = .next (State.deferOver
                  { h with service := { h.service with phase := .idle, pending := none, overrun := false } })
          ∧ (s.service.step.tickDone = true →
              exec (.release q) s
                = .next (State.deferOver
                    { g with
                      service := { g.service with phase := .idle, pending := none, overrun := false } })))
        ∧ (s.service.step.unicast = true → s.service.step.tickDone = false → s.ServesAll q →
          exec (.release q) s
            = .next (State.deferOver { g with service := { g.service with owed := true } })))
    ∧ (s.running = true → s.levelling.tick = some start → s.service.skipsTick = false →
        s.service.owed = true → s.service.pending = some p → p.restarts = false →
      ∃ t, exec .levellingTick s = .next t ∧ t.service.owed = false
        ∧ (s.mode = .active → s.tx.parting = false → t.ResultJoins s.tx s.service p)
        ∧ (s.mode ≠ .active ∨ s.tx.parting = true → t.ResultDropped s.tx))
    ∧ (s.present r = true →
        s.freezeRamps.ranks.get r
            = { s.ranks.get r with ramp := { (s.ranks.get r).ramp with
                  state := .frozen
                  before := match (s.ranks.get r).ramp.state with
                    | .rising => some .up
                    | .falling => some .down
                    | .still => none
                    | .frozen => (s.ranks.get r).ramp.before } }
          ∧ (∀ k c, (s.ranks.get r).claims.chosen (s.img.mask.get r) = some (k, c) →
            (s.endFreeze.ranks.get r).claims = (s.ranks.get r).claims
              ∧ (s.endFreeze.ranks.get r).inService = some k
              ∧ (s.endFreeze.ranks.get r).ramp.target = c.value
              ∧ (s.endFreeze.ranks.get r).ramp.rule = some c.rule
              ∧ (s.endFreeze.ranks.get r).ramp.output = (s.ranks.get r).ramp.output
              ∧ ((s.ranks.get r).ramp.state = .frozen →
                  (s.endFreeze.ranks.get r).ramp.state = motion (s.ranks.get r).ramp.output c.value
                  ∧ (s.endFreeze.ranks.get r).ramp.acc
                    = (if ((s.ranks.get r).ramp.before = some .up
                              ∧ (s.ranks.get r).ramp.output < c.value)
                          ∨ ((s.ranks.get r).ramp.before = some .down
                              ∧ c.value < (s.ranks.get r).ramp.output)
                       then (s.ranks.get r).ramp.acc else 0))))
    ∧ (s.present r = false →
        s.freezeRamps.ranks.get r = s.ranks.get r ∧ s.endFreeze.ranks.get r = s.ranks.get r)
    ∧ s.SameBut [.ranks] s.freezeRamps ∧ s.SameBut [.ranks] s.endFreeze

/-- RUN TO MATCH records its match and runs the station, is refused in STEPPING, and ends a hold with a
re-choice; where the queue refuses its result it does the same and the result is dropped (R92, R160, R172,
R176). The step record stands, where no rule empties it (log 40).
Choices of the model it rests on: log 12, 40. -/
def Obligations.RunToMatchRecordsItsTest : Prop :=
  ∀ (s u v : State) (q : Request) (rank : Rank) (hi lo sense : Byte) (m : MatchRecord),
    q.params = [match rank with | .a => 0#8 | .b => 1#8 | .c => 2#8, hi, lo, sense] →
    s.present rank = true → hi.toNat * 256 + lo.toNat ≤ 1000 → sense.toNat ≤ 1 →
    m = { rank := rank, value := hi.toNat * 256 + lo.toNat
          sense := if sense = 0#8 then .atOrAbove else .atOrBelow } →
    u = { s.heard with
          service := { s.service with hold := .runToMatch, cause := none, matching := some m } } →
    v = u.endFreeze →
    (s.Serves q →
      (s.service.hold = .running ∨ s.service.hold = .runToMatch →
        exec (.runToMatch q) s = .next (u.answering (pendingOf 5#8 q) 0 false []).deferOver)
      ∧ (s.service.hold = .held →
        exec (.runToMatch q) s = .next (v.answering (pendingOf 5#8 q) 0 false []).deferOver)
      ∧ (s.service.hold = .stepping →
        exec (.runToMatch q) s = .next (s.heard.answering (pendingOf 5#8 q) 1 false []).deferOver))
    ∧ (s.ServesUnanswered q →
      (s.service.hold = .running ∨ s.service.hold = .runToMatch →
        exec (.runToMatch q) s = .next u.unanswered.deferOver)
      ∧ (s.service.hold = .held → exec (.runToMatch q) s = .next v.unanswered.deferOver)
      ∧ (s.service.hold = .stepping → exec (.runToMatch q) s = .next s.heard.unanswered.deferOver))

/-- FORCE LEVEL asserts SERVICE_FORCE on the ranks named and starts the force timer; FORCE CANCEL
withdraws it there and stops the timer when no rank is left forced, each also where the queue refuses its
result; the rank set has A in bit 0, B in bit 1 and C in bit 2 (R143, R148); at 10 min every force is
withdrawn and FORCE_EXPIRED latched (R87, R160, R177, R178).
Choices of the model it rests on: log 2, 12. -/
def Obligations.ForceLevelAssertsCancelWithdraws : Prop :=
  ∀ (s : State) (q : Request) (b hi lo : Byte) (set : PerRank Bool) (start : Nat) (u : State),
    (rankSetOf b = some set → s.allPresent set = true → hi.toNat * 256 + lo.toNat ≤ 1000 →
        q.params = [b, hi, lo] →
        u = { s.heard.changeClaims (fun r c =>
                if set.get r = true then
                  { c with
                    force := some
                      { value := hi.toNat * 256 + lo.toNat, rule := { up := 1000, down := 1000 } } }
                else c) with
              service := { s.service with force := some s.clock } } →
      (s.Serves q →
        exec (.forceLevel q) s = .next (u.answering (pendingOf 6#8 q) 0 false []).deferOver)
      ∧ (s.ServesUnanswered q → exec (.forceLevel q) s = .next u.unanswered.deferOver)
      ∧ (s.ServesAll q → exec (.forceLevel q) s = .next u.deferOver))
    ∧ (rankSetOf b = some set → s.allPresent set = true → q.params = [b] →
        u = s.heard.changeClaims (fun r c => if set.get r = true then { c with force := none } else c) →
      ∀ v, v = { u with
            service := { s.service with
              force := if u.anyForced = true then s.service.force else none } } →
        (s.Serves q →
          exec (.forceCancel q) s = .next (v.answering (pendingOf 7#8 q) 0 false []).deferOver)
        ∧ (s.ServesUnanswered q → exec (.forceCancel q) s = .next v.unanswered.deferOver)
        ∧ (s.ServesAll q → exec (.forceCancel q) s = .next v.deferOver))
    ∧ (rankSetOf b = some set ↔
        1 ≤ b.toNat ∧ b.toNat ≤ 7 ∧ set.a = b.getLsbD 0 ∧ set.b = b.getLsbD 1 ∧ set.c = b.getLsbD 2)
    ∧ (s.running = true → s.service.force = some start →
      ∃ t, exec .forceTimerExpiry s = .next t ∧ t.clock = max s.clock (start + 115200000)
        ∧ t.service = { s.service with force := none }
        ∧ t.conditions = s.conditions ||| 0x4000#16
        ∧ (s.ClaimsBecome t fun _ c => { c with force := none })
        ∧ s.OutputsKept t ∧ s.SameBut [.clock, .dim, .service, .conditions, .ranks] t)

/-- CLEAR CONDITIONS clears each condition its word names and leaves every other latched condition and
every block that latches them as they are, unicast with or without its result and broadcast; a condition
that the request's own start edge latches (R132) stands unless named (R160, R172, R181).
Choices of the model it rests on: log 12. -/
def Obligations.ClearConditionsClearsWhatItNames : Prop :=
  ∀ (s : State) (q : Request) (hi lo : Byte) (u : State), q.params = [hi, lo] →
    u = { s.heard with conditions := s.heard.conditions &&& ~~~(hi ++ lo) } →
    (s.Serves q →
      exec (.clearConditions q) s = .next (u.answering (pendingOf 12#8 q) 0 false []).deferOver)
    ∧ (s.ServesUnanswered q → exec (.clearConditions q) s = .next u.unanswered.deferOver)
    ∧ (s.ServesAll q → exec (.clearConditions q) s = .next u.deferOver)
    ∧ (∀ c : Condition, u.latched c = (s.heard.latched c && !(hi ++ lo).getLsbD c.bit))

/-- A broadcast RESTART, and any RESTART in MUTE, begins at once; a unicast one is answered DONE while
ACTIVE and its restart waits for the result, and begins at once where the queue refuses that result, in
LISTEN and with a parting report waiting (R160, R169, R172, R182, R192).
Choices of the model it rests on: log 7, 12, 21, 34. -/
def Obligations.RestartReturnsEachBlockToItsValues : Prop :=
  ∀ (s : State) (q : Request) (straps : BitVec 6), s.Hears → q.params = [] →
    (q.target = 63#8 →
      ∃ t, exec (.restart q straps) s = .next t ∧ s.heard.RestartBegins t straps)
    ∧ (s.mode = .mute → q.target.toNat = s.own → s.own ≤ 62 →
      ∃ t, exec (.restart q straps) s = .next t ∧ s.heard.RestartBegins t straps)
    ∧ (s.Serves q →
      exec (.restart q straps) s
        = .next (State.answering { s.heard with pins := { s.pins with straps := straps } }
            { kind := 13#8, tag := q.tag, restarts := true } 0 false []).deferOver)
    ∧ (s.ServesUnanswered q →
      ∃ t, exec (.restart q straps) s = .next t
        ∧ State.RestartBegins { s.heard with service := { s.service with overrun := false } } t straps)

/-- A unicast request during another one is discarded and sets OVERRUN, also at the very end of the frame
that carries the pending result; an unknown kind answers UNKNOWN_REQUEST, and a known kind with a wrong
count or a parameter out of range BAD_PARAMETER, nothing executed, and where the queue refuses that result
it is dropped; a broadcast with such parameters, a RESTART with parameters heard in MUTE, a request for
another station, one other than RESTART heard in MUTE, and a broadcast of a kind that is not broadcastable
leave no trace; in LISTEN a result is dropped at once (R148, R160, R169 to R172, R190, R192).
That a muted station passes over READ ENTRY too is log 38.
Choices of the model it rests on: log 12, 35, 38. -/
def Obligations.RequestsTurnedAwayExecuteNothing : Prop :=
  ∀ (s : State) (q : Request) (kind : Byte) (straps : BitVec 6), q.params.length ≤ 4 →
    (s.Hears → s.mode ≠ .mute → s.service.phase ≠ .idle → q.target.toNat = s.own → s.own ≤ 62 →
      (∀ c ∈ [.queryState q, .hold q, .release q, .step q, .runToMatch q, .forceLevel q,
              .forceCancel q, .snapshotLoad q, .snapshotShift q, .readEntry q, .readFronts q,
              .clearConditions q, .unknownServiceRequest kind q],
        exec c s
          = .next (State.deferOver { s.heard with service := { s.service with overrun := true } }))
      ∧ exec (.restart q straps) s
        = .next (State.deferOver
            { s.heard with
              pins := { s.pins with straps := straps }
              service := { s.service with overrun := true } }))
    ∧ (∀ f, s.tx.flight = some f → s.running = true → s.mode = .active → s.line.state ≠ .stuck →
        s.service.phase ≠ .idle → q.target.toNat = s.own → s.own ≤ 62 →
        f.start + 110 * f.chars.length ≤ s.clock → s.tx.contention = .sending →
      ∀ c ∈ [.queryState q, .hold q, .release q, .step q, .runToMatch q, .forceLevel q,
             .forceCancel q, .snapshotLoad q, .snapshotShift q, .readEntry q, .readFronts q,
             .clearConditions q, .unknownServiceRequest kind q],
        exec c s = .next { s.driveNow.heard with service := { s.service with overrun := true } })
    ∧ (kind = 0#8 ∨ 13 < kind.toNat →
      (s.Serves q →
        exec (.unknownServiceRequest kind q) s
          = .next (s.heard.answering (pendingOf kind q) 3 false []).deferOver)
      ∧ (s.ServesUnanswered q →
        exec (.unknownServiceRequest kind q) s = .next s.heard.unanswered.deferOver))
    ∧ (∀ x ∈
        [(1#8, Instr.queryState q), (2#8, .hold q), (3#8, .release q), (4#8, .step q),
         (5#8, .runToMatch q), (6#8, .forceLevel q), (7#8, .forceCancel q), (8#8, .snapshotLoad q),
         (9#8, .snapshotShift q), (10#8, .readEntry q), (11#8, .readFronts q),
         (12#8, .clearConditions q)],
      s.Malformed x.1 q.params →
        (s.Serves q → exec x.2 s = .next (s.heard.answering (pendingOf x.1 q) 2 false []).deferOver)
        ∧ (s.ServesUnanswered q → exec x.2 s = .next s.heard.unanswered.deferOver)
        ∧ (s.ServesAll q → exec x.2 s = .next s.heard.deferOver))
    ∧ (q.params ≠ [] → ∀ u, u = { s.heard with pins := { s.pins with straps := straps } } →
      (s.Serves q →
        exec (.restart q straps) s = .next (u.answering (pendingOf 13#8 q) 2 false []).deferOver)
      ∧ (s.ServesUnanswered q → exec (.restart q straps) s = .next u.unanswered.deferOver)
      ∧ (s.Hears → q.target = 63#8 ∨ (s.mode = .mute ∧ q.target.toNat = s.own ∧ s.own ≤ 62) →
        exec (.restart q straps) s = .next u.deferOver))
    ∧ (s.Hears → q.target.toNat ≤ 62 → q.target.toNat ≠ s.own →
      exec (.restart q straps) s
        = .next (State.deferOver { s.heard with pins := { s.pins with straps := straps } }))
    ∧ (s.Hears → q.target.toNat ≤ 63 → kind = 0#8 ∨ 13 < kind.toNat →
      ((q.target.toNat ≠ 63 ∧ q.target.toNat ≠ s.own) ∨ s.mode = .mute →
        ∀ c ∈ [.queryState q, .hold q, .release q, .step q, .runToMatch q, .forceLevel q,
               .forceCancel q, .snapshotLoad q, .snapshotShift q, .readEntry q, .readFronts q,
               .clearConditions q, .unknownServiceRequest kind q],
          exec c s = .next s.heard.deferOver)
      ∧ (q.target = 63#8 → ∀ c ∈ [.queryState q, .runToMatch q, .snapshotLoad q, .snapshotShift q,
            .readEntry q, .readFronts q, .unknownServiceRequest kind q],
          exec c s = .next s.heard.deferOver)
      ∧ (s.mode = .listen → s.service.phase = .idle → q.target.toNat = s.own → s.own ≤ 62 →
          q.params = [] →
        exec (.queryState q) s
          = .next (State.deferOver
              { s.heard with
                service := { s.service with phase := .idle, pending := none, overrun := false } })))

/-! ## Frames and bodies -/

/-- A frame as the station sends it, received whole after an idle point, is the frame accepted: kind,
position, sequence and body (R129 to R131, R140, R141). The CRC of "123456789" is 0x29B1. -/
def Obligations.SentFrameIsTheFrameAccepted : Prop :=
  ∀ (s : State) (kind position seq : Nat) (body : List Byte),
    s.rx.state = .search → s.rx.frame = none → s.rx.ownStart = false →
    position < 64 → seq < 16 → body.length ≤ 48 →
    headerFits kind (classOf kind) position = some true →
    (frameChars kind position seq body).foldl (fun u c => u.takeChar true (.good c)) s
        = s.acceptFrame kind position seq body
    ∧ (frameChars kind position seq body).length = body.length + 6
    ∧ crcOf [0x31#8, 0x32#8, 0x33#8, 0x34#8, 0x35#8, 0x36#8, 0x37#8, 0x38#8, 0x39#8] = 0x29B1#16

/-- A report, delta or front notice body laid out reads back as the record, delta or notice it was
composed from, for every one whose fields are in range (R143, R145 to R147). The layouts of a delta and of
a front notice put every field at the offset R146 and R147 give it, coded as R143 gives; the layout of a
report and the figures of the codes are stated with the results. -/
def Obligations.BodiesLaidOutReadBack : Prop :=
  ∀ (p : Published) (d : Delta) (n : Notice),
    (p.mode ≠ .config → p.reading ≤ 32767 → (∀ r : Rank, ∀ g ∈ p.goal.get r, g ≤ 1000) →
      p.want.length ≤ 4 → p.want.Nodup → (∀ x ∈ p.want, x ≤ 62) →
      readFull (fullBody p) = some p ∧ (fullBody p).length = 14 + p.want.length)
    ∧ (1 ≤ d.fields.length → d.fields.length ≤ 6 → (d.fields.map DeltaField.tag).Nodup →
      (∀ m, DeltaField.mode m ∈ d.fields → m ≠ .config) →
      (∀ x, DeltaField.reading x ∈ d.fields → x ≤ 32767) →
      (∀ g, DeltaField.goalA (some g) ∈ d.fields ∨ DeltaField.goalB (some g) ∈ d.fields
          ∨ DeltaField.goalC (some g) ∈ d.fields → g ≤ 1000) →
      d.want.length ≤ 4 → d.want.Nodup → (∀ x ∈ d.want, x ≤ 62) →
      readDelta (deltaBody d) = some d
      ∧ (deltaBody d).length = 2 + 3 * d.fields.length + d.want.length)
    ∧ (n.origin ≤ 62 → n.serial ≤ 15 → 1 ≤ n.magnitude → n.magnitude ≤ 100 →
      (∀ x ∈ n.pace, 1 ≤ x ∧ x ≤ 10000) → 1 ≤ n.sightings.length → n.sightings.length ≤ 4 →
      (n.sightings.map SightingAge.pos).Nodup → (∀ x ∈ n.sightings, x.pos ≤ 62 ∧ x.age ≤ 65535) →
      readNotice (noticeBody n) = some n ∧ (noticeBody n).length = 7 + 3 * n.sightings.length)
    ∧ DeltaShown (deltaBody d) d ∧ NoticeShown (noticeBody n) n

/-! ## What every step keeps -/

/-- Right after reset every block is sound, and the station is in CONFIG with no condition latched
(R184). The levels the pins show then (log 5), the fast-track value 0 (log 34) and the debounced level
RELEASED (log 36) are the model's choice.
Choices of the model it rests on: log 5, 34, 36. -/
def Obligations.ResetStateIsSound : Prop :=
  State.reset.mode = .config ∧ State.reset.conditions = 0 ∧ State.reset.pending = []
    ∧ State.reset.PowerUpValues
    ∧ State.reset.WantInv ∧ State.reset.TableInv ∧ State.reset.SamplerInv ∧ State.reset.FrontsInv
    ∧ State.reset.ConfigInv ∧ State.reset.ModeInv ∧ State.reset.LineInv ∧ State.reset.HoldInv
    ∧ State.reset.PhaseInv ∧ State.reset.ReceiverInv
    ∧ State.reset.ResultInv ∧ State.reset.SilentInv ∧ State.reset.QueueInv
    ∧ State.reset.ContentionInv ∧ State.reset.FlightInv ∧ State.reset.LevelInv ∧ State.reset.BaseInv ∧ State.reset.RampInv
    ∧ State.reset.ChoiceInv ∧ State.reset.SwitchInv ∧ State.reset.OwnerInv

/-- Every step keeps the receiver's frame under assembly sound: present exactly outside SEARCH, its header
fitting, its parts those of the receiver state, its CRC that of the characters taken (R129 to R131). With
that it keeps the want-full list and the row table sound (R20, R27); and it keeps the sampler's counts and
the front table sound (R5 to R7, R10, R11, R65, R84). -/
def Obligations.StepKeepsRowTableSamplerAndFronts : Prop :=
  ∀ (s t : State), step s = .next t →
    (s.ReceiverInv → t.ReceiverInv)
      ∧ (s.ReceiverInv → s.WantInv → s.TableInv → t.WantInv ∧ t.TableInv)
      ∧ (s.SamplerInv → t.SamplerInv) ∧ (s.FrontsInv → t.FrontsInv)

/-- Every step keeps CONFIG dark and silent with an image in use outside it, the timers of the modes,
the station's isolation on a STUCK line, and the line monitor's times with the level of ROW. In CONFIG every
block beside the sampler, the line side and the start-up controller holds its power-up values, the
fast-track value 0 (log 34) and the debounced level RELEASED (log 36) among them, which are the model's
choice.
Choices of the model it rests on: log 34, 36. -/
def Obligations.StepKeepsConfigDarkAndModes : Prop :=
  ∀ (s t : State), s.ConfigInv → s.SilentInv → step s = .next t →
    t.ConfigInv ∧ (s.ModeInv → t.ModeInv) ∧ (s.LineInv → t.LineInv)

/-- Every step keeps hold state, phase, pending request and queued result in agreement, and the step record's
count within 0 to 10, below 10 while the step goes on and 0 before its tick (R174). That a match
stands recorded in RUN_TO_MATCH alone is the model's choice (log 41).
Choices of the model it rests on: log 41. -/
def Obligations.StepKeepsServiceEngine : Prop :=
  ∀ (s t : State), s.QueueInv → s.ContentionInv → s.HoldInv → s.PhaseInv → s.ResultInv →
    step s = .next t →
    t.HoldInv ∧ t.PhaseInv ∧ t.ResultInv

/-- Every step keeps the transmit queue within its limits and in order, one frame in flight at most, a
FULL held over only behind a marker in flight with a DELTA REPORT (R156, R162), a parting report alone,
and everything silent outside ACTIVE; and with the queue sound it keeps the frame in flight sound, its
arbitration read back right in SENDING, and `driving` set only while the station drives (R129, R163,
R164). That of the own bits only a recessive one is found read back wrong, at its sample point, is log 25;
that a DELTA marker in flight with a FULL REPORT holds no FULL over is log 16.
Choices of the model it rests on: log 16, 25. -/
def Obligations.StepKeepsTransmitQueue : Prop :=
  ∀ (s t : State), s.ConfigInv → s.SilentInv → s.QueueInv → s.ContentionInv → step s = .next t →
    t.SilentInv ∧ t.QueueInv ∧ t.ContentionInv ∧ (s.FlightInv → t.FlightInv)

/-- Every step keeps every level within 0 to 1000 and every rate within 1 to 1000. -/
def Obligations.StepKeepsLevelsInRange : Prop :=
  ∀ (s t : State), s.LevelInv → step s = .next t → t.LevelInv

/-- Every step keeps one base claim and a claim in service on each present rank, the others idle; the
highest unmasked claim in service and handed on while the arbiters choose; and each ramp state the
comparison of target and output, or FROZEN. -/
def Obligations.StepKeepsBaseClaimChoiceAndRamps : Prop :=
  ∀ (s t : State), s.ConfigInv → s.BaseInv → step s = .next t →
    t.BaseInv ∧ (s.ChoiceInv → t.ChoiceInv) ∧ (s.RampInv → t.RampInv)

/-- Every step keeps the claims what their owners' state says, and the switch unit's timers with its
press state and override. That a RESTART stops the press timer with the press it makes SPENT is log 21.
Choices of the model it rests on: log 21. -/
def Obligations.StepKeepsClaimsWithOwners : Prop :=
  ∀ (s t : State), s.ConfigInv → s.BaseInv → s.FrontsInv → s.SwitchInv → s.OwnerInv →
    step s = .next t → t.SwitchInv ∧ t.OwnerInv

/-- MUTE is left only at a restart, at power-up and at RESET_N: a RESTART heard as a command, or one whose
last check character CHARACTER_END completes (R139, R169, R192).
Choices of the model it rests on: log 2, 12, 21, 25, 34. -/
def Obligations.MuteIsLeftOnlyByRestartOrReset : Prop :=
  ∀ (s t : State) (c : Instr), c.wf = true → s.mode = .mute → s.ConfigInv → s.SilentInv → s.PhaseInv →
    exec c s = .next t → t.mode ≠ .mute →
    c = .resetNAssert ∨ (∃ h d w w' f, c = .powerUp h d w w' f) ∨ (∃ d f, c = .resetNRelease d f)
      ∨ (∃ q d, c = .restart q d ∧ q.params = [] ∧ (q.target.toNat = s.own ∨ q.target = 63#8)
          ∧ s.heard.RestartBegins t d)
      ∨ ∃ x d f q hi v u, c = .characterEnd x d ∧ judgeSamples x = .good v ∧ s.rx.state = .check ∧ s.rx.frame = some f
          ∧ f.driving = false ∧ (f.kindSeq.getD 0).toNat / 16 = 4
          ∧ f.check = some hi ∧ number hi v = f.crc.toNat
          ∧ readRequest f.body = some q ∧ q.kind = 13#8 ∧ q.params = []
          ∧ (q.target = s.own ∨ q.target = 63)
          ∧ s.SameBut [.clock, .dim, .line, .rx, .pins] u ∧ u.RestartBegins t d
end

