-- ==== Sys2Proof/Laws/State.lean ====
section
/-! SUPPORT. One lemma for each field after each update of the state, so that no proof unfolds a record
update; and the readings shared by the blocks in terms of the fields they read. -/

namespace Sys2Proof.Machine

section StartUp
variable (s : State) (x : StartUp)
@[simp] theorem State.setStartUp_pending : (s.setStartUp x).pending = s.pending := rfl
@[simp] theorem State.setStartUp_clock : (s.setStartUp x).clock = s.clock := rfl
@[simp] theorem State.setStartUp_running : (s.setStartUp x).running = s.running := rfl
@[simp] theorem State.setStartUp_pins : (s.setStartUp x).pins = s.pins := rfl
@[simp] theorem State.setStartUp_dim : (s.setStartUp x).dim = s.dim := rfl
@[simp] theorem State.setStartUp_startUp : (s.setStartUp x).startUp = x := rfl
@[simp] theorem State.setStartUp_conditions : (s.setStartUp x).conditions = s.conditions := rfl
@[simp] theorem State.setStartUp_sampler : (s.setStartUp x).sampler = s.sampler := rfl
@[simp] theorem State.setStartUp_rows : (s.setStartUp x).rows = s.rows := rfl
@[simp] theorem State.setStartUp_levelling : (s.setStartUp x).levelling = s.levelling := rfl
@[simp] theorem State.setStartUp_fronts : (s.setStartUp x).fronts = s.fronts := rfl
@[simp] theorem State.setStartUp_ranks : (s.setStartUp x).ranks = s.ranks := rfl
@[simp] theorem State.setStartUp_rampClock : (s.setStartUp x).rampClock = s.rampClock := rfl
@[simp] theorem State.setStartUp_occ : (s.setStartUp x).occ = s.occ := rfl
@[simp] theorem State.setStartUp_switch : (s.setStartUp x).switch = s.switch := rfl
@[simp] theorem State.setStartUp_line : (s.setStartUp x).line = s.line := rfl
@[simp] theorem State.setStartUp_rx : (s.setStartUp x).rx = s.rx := rfl
@[simp] theorem State.setStartUp_tx : (s.setStartUp x).tx = s.tx := rfl
@[simp] theorem State.setStartUp_service : (s.setStartUp x).service = s.service := rfl
@[simp] theorem State.setStartUp_again (y : StartUp) : (s.setStartUp x).setStartUp y = s.setStartUp y := rfl
@[simp] theorem State.setStartUp_now : (s.setStartUp x).now = s.now := rfl
@[simp] theorem State.setStartUp_overriding : (s.setStartUp x).overriding = s.overriding := rfl
@[simp] theorem State.setStartUp_heldFlag : (s.setStartUp x).heldFlag = s.heldFlag := rfl
end StartUp

section Conditions
variable (s : State) (x : Half)
@[simp] theorem State.setConditions_pending : (s.setConditions x).pending = s.pending := rfl
@[simp] theorem State.setConditions_clock : (s.setConditions x).clock = s.clock := rfl
@[simp] theorem State.setConditions_running : (s.setConditions x).running = s.running := rfl
@[simp] theorem State.setConditions_pins : (s.setConditions x).pins = s.pins := rfl
@[simp] theorem State.setConditions_dim : (s.setConditions x).dim = s.dim := rfl
@[simp] theorem State.setConditions_startUp : (s.setConditions x).startUp = s.startUp := rfl
@[simp] theorem State.setConditions_conditions : (s.setConditions x).conditions = x := rfl
@[simp] theorem State.setConditions_sampler : (s.setConditions x).sampler = s.sampler := rfl
@[simp] theorem State.setConditions_rows : (s.setConditions x).rows = s.rows := rfl
@[simp] theorem State.setConditions_levelling : (s.setConditions x).levelling = s.levelling := rfl
@[simp] theorem State.setConditions_fronts : (s.setConditions x).fronts = s.fronts := rfl
@[simp] theorem State.setConditions_ranks : (s.setConditions x).ranks = s.ranks := rfl
@[simp] theorem State.setConditions_rampClock : (s.setConditions x).rampClock = s.rampClock := rfl
@[simp] theorem State.setConditions_occ : (s.setConditions x).occ = s.occ := rfl
@[simp] theorem State.setConditions_switch : (s.setConditions x).switch = s.switch := rfl
@[simp] theorem State.setConditions_line : (s.setConditions x).line = s.line := rfl
@[simp] theorem State.setConditions_rx : (s.setConditions x).rx = s.rx := rfl
@[simp] theorem State.setConditions_tx : (s.setConditions x).tx = s.tx := rfl
@[simp] theorem State.setConditions_service : (s.setConditions x).service = s.service := rfl
@[simp] theorem State.setConditions_again (y : Half) : (s.setConditions x).setConditions y = s.setConditions y := rfl
@[simp] theorem State.setConditions_mode : (s.setConditions x).mode = s.mode := rfl
@[simp] theorem State.setConditions_own : (s.setConditions x).own = s.own := rfl
@[simp] theorem State.setConditions_img : (s.setConditions x).img = s.img := rfl
@[simp] theorem State.setConditions_now : (s.setConditions x).now = s.now := rfl
@[simp] theorem State.setConditions_overriding : (s.setConditions x).overriding = s.overriding := rfl
@[simp] theorem State.setConditions_heldFlag : (s.setConditions x).heldFlag = s.heldFlag := rfl
@[simp] theorem State.setConditions_present (r : Rank) : (s.setConditions x).present r = s.present r := rfl
end Conditions

section Sampler
variable (s : State) (x : Sampler)
@[simp] theorem State.setSampler_pending : (s.setSampler x).pending = s.pending := rfl
@[simp] theorem State.setSampler_clock : (s.setSampler x).clock = s.clock := rfl
@[simp] theorem State.setSampler_running : (s.setSampler x).running = s.running := rfl
@[simp] theorem State.setSampler_pins : (s.setSampler x).pins = s.pins := rfl
@[simp] theorem State.setSampler_dim : (s.setSampler x).dim = s.dim := rfl
@[simp] theorem State.setSampler_startUp : (s.setSampler x).startUp = s.startUp := rfl
@[simp] theorem State.setSampler_conditions : (s.setSampler x).conditions = s.conditions := rfl
@[simp] theorem State.setSampler_sampler : (s.setSampler x).sampler = x := rfl
@[simp] theorem State.setSampler_rows : (s.setSampler x).rows = s.rows := rfl
@[simp] theorem State.setSampler_levelling : (s.setSampler x).levelling = s.levelling := rfl
@[simp] theorem State.setSampler_fronts : (s.setSampler x).fronts = s.fronts := rfl
@[simp] theorem State.setSampler_ranks : (s.setSampler x).ranks = s.ranks := rfl
@[simp] theorem State.setSampler_rampClock : (s.setSampler x).rampClock = s.rampClock := rfl
@[simp] theorem State.setSampler_occ : (s.setSampler x).occ = s.occ := rfl
@[simp] theorem State.setSampler_switch : (s.setSampler x).switch = s.switch := rfl
@[simp] theorem State.setSampler_line : (s.setSampler x).line = s.line := rfl
@[simp] theorem State.setSampler_rx : (s.setSampler x).rx = s.rx := rfl
@[simp] theorem State.setSampler_tx : (s.setSampler x).tx = s.tx := rfl
@[simp] theorem State.setSampler_service : (s.setSampler x).service = s.service := rfl
@[simp] theorem State.setSampler_again (y : Sampler) : (s.setSampler x).setSampler y = s.setSampler y := rfl
@[simp] theorem State.setSampler_mode : (s.setSampler x).mode = s.mode := rfl
@[simp] theorem State.setSampler_own : (s.setSampler x).own = s.own := rfl
@[simp] theorem State.setSampler_img : (s.setSampler x).img = s.img := rfl
@[simp] theorem State.setSampler_now : (s.setSampler x).now = s.now := rfl
@[simp] theorem State.setSampler_overriding : (s.setSampler x).overriding = s.overriding := rfl
@[simp] theorem State.setSampler_heldFlag : (s.setSampler x).heldFlag = s.heldFlag := rfl
@[simp] theorem State.setSampler_present (r : Rank) : (s.setSampler x).present r = s.present r := rfl
end Sampler

section Rows
variable (s : State) (x : RowTable)
@[simp] theorem State.setRows_pending : (s.setRows x).pending = s.pending := rfl
@[simp] theorem State.setRows_clock : (s.setRows x).clock = s.clock := rfl
@[simp] theorem State.setRows_running : (s.setRows x).running = s.running := rfl
@[simp] theorem State.setRows_pins : (s.setRows x).pins = s.pins := rfl
@[simp] theorem State.setRows_dim : (s.setRows x).dim = s.dim := rfl
@[simp] theorem State.setRows_startUp : (s.setRows x).startUp = s.startUp := rfl
@[simp] theorem State.setRows_conditions : (s.setRows x).conditions = s.conditions := rfl
@[simp] theorem State.setRows_sampler : (s.setRows x).sampler = s.sampler := rfl
@[simp] theorem State.setRows_rows : (s.setRows x).rows = x := rfl
@[simp] theorem State.setRows_levelling : (s.setRows x).levelling = s.levelling := rfl
@[simp] theorem State.setRows_fronts : (s.setRows x).fronts = s.fronts := rfl
@[simp] theorem State.setRows_ranks : (s.setRows x).ranks = s.ranks := rfl
@[simp] theorem State.setRows_rampClock : (s.setRows x).rampClock = s.rampClock := rfl
@[simp] theorem State.setRows_occ : (s.setRows x).occ = s.occ := rfl
@[simp] theorem State.setRows_switch : (s.setRows x).switch = s.switch := rfl
@[simp] theorem State.setRows_line : (s.setRows x).line = s.line := rfl
@[simp] theorem State.setRows_rx : (s.setRows x).rx = s.rx := rfl
@[simp] theorem State.setRows_tx : (s.setRows x).tx = s.tx := rfl
@[simp] theorem State.setRows_service : (s.setRows x).service = s.service := rfl
@[simp] theorem State.setRows_again (y : RowTable) : (s.setRows x).setRows y = s.setRows y := rfl
@[simp] theorem State.setRows_mode : (s.setRows x).mode = s.mode := rfl
@[simp] theorem State.setRows_own : (s.setRows x).own = s.own := rfl
@[simp] theorem State.setRows_img : (s.setRows x).img = s.img := rfl
@[simp] theorem State.setRows_now : (s.setRows x).now = s.now := rfl
@[simp] theorem State.setRows_overriding : (s.setRows x).overriding = s.overriding := rfl
@[simp] theorem State.setRows_heldFlag : (s.setRows x).heldFlag = s.heldFlag := rfl
@[simp] theorem State.setRows_present (r : Rank) : (s.setRows x).present r = s.present r := rfl
end Rows

section Levelling
variable (s : State) (x : Levelling)
@[simp] theorem State.setLevelling_pending : (s.setLevelling x).pending = s.pending := rfl
@[simp] theorem State.setLevelling_clock : (s.setLevelling x).clock = s.clock := rfl
@[simp] theorem State.setLevelling_running : (s.setLevelling x).running = s.running := rfl
@[simp] theorem State.setLevelling_pins : (s.setLevelling x).pins = s.pins := rfl
@[simp] theorem State.setLevelling_dim : (s.setLevelling x).dim = s.dim := rfl
@[simp] theorem State.setLevelling_startUp : (s.setLevelling x).startUp = s.startUp := rfl
@[simp] theorem State.setLevelling_conditions : (s.setLevelling x).conditions = s.conditions := rfl
@[simp] theorem State.setLevelling_sampler : (s.setLevelling x).sampler = s.sampler := rfl
@[simp] theorem State.setLevelling_rows : (s.setLevelling x).rows = s.rows := rfl
@[simp] theorem State.setLevelling_levelling : (s.setLevelling x).levelling = x := rfl
@[simp] theorem State.setLevelling_fronts : (s.setLevelling x).fronts = s.fronts := rfl
@[simp] theorem State.setLevelling_ranks : (s.setLevelling x).ranks = s.ranks := rfl
@[simp] theorem State.setLevelling_rampClock : (s.setLevelling x).rampClock = s.rampClock := rfl
@[simp] theorem State.setLevelling_occ : (s.setLevelling x).occ = s.occ := rfl
@[simp] theorem State.setLevelling_switch : (s.setLevelling x).switch = s.switch := rfl
@[simp] theorem State.setLevelling_line : (s.setLevelling x).line = s.line := rfl
@[simp] theorem State.setLevelling_rx : (s.setLevelling x).rx = s.rx := rfl
@[simp] theorem State.setLevelling_tx : (s.setLevelling x).tx = s.tx := rfl
@[simp] theorem State.setLevelling_service : (s.setLevelling x).service = s.service := rfl
@[simp] theorem State.setLevelling_again (y : Levelling) : (s.setLevelling x).setLevelling y = s.setLevelling y := rfl
@[simp] theorem State.setLevelling_mode : (s.setLevelling x).mode = s.mode := rfl
@[simp] theorem State.setLevelling_own : (s.setLevelling x).own = s.own := rfl
@[simp] theorem State.setLevelling_img : (s.setLevelling x).img = s.img := rfl
@[simp] theorem State.setLevelling_now : (s.setLevelling x).now = s.now := rfl
@[simp] theorem State.setLevelling_overriding : (s.setLevelling x).overriding = s.overriding := rfl
@[simp] theorem State.setLevelling_heldFlag : (s.setLevelling x).heldFlag = s.heldFlag := rfl
@[simp] theorem State.setLevelling_present (r : Rank) : (s.setLevelling x).present r = s.present r := rfl
end Levelling

section Fronts
variable (s : State) (x : Fronts)
@[simp] theorem State.setFronts_pending : (s.setFronts x).pending = s.pending := rfl
@[simp] theorem State.setFronts_clock : (s.setFronts x).clock = s.clock := rfl
@[simp] theorem State.setFronts_running : (s.setFronts x).running = s.running := rfl
@[simp] theorem State.setFronts_pins : (s.setFronts x).pins = s.pins := rfl
@[simp] theorem State.setFronts_dim : (s.setFronts x).dim = s.dim := rfl
@[simp] theorem State.setFronts_startUp : (s.setFronts x).startUp = s.startUp := rfl
@[simp] theorem State.setFronts_conditions : (s.setFronts x).conditions = s.conditions := rfl
@[simp] theorem State.setFronts_sampler : (s.setFronts x).sampler = s.sampler := rfl
@[simp] theorem State.setFronts_rows : (s.setFronts x).rows = s.rows := rfl
@[simp] theorem State.setFronts_levelling : (s.setFronts x).levelling = s.levelling := rfl
@[simp] theorem State.setFronts_fronts : (s.setFronts x).fronts = x := rfl
@[simp] theorem State.setFronts_ranks : (s.setFronts x).ranks = s.ranks := rfl
@[simp] theorem State.setFronts_rampClock : (s.setFronts x).rampClock = s.rampClock := rfl
@[simp] theorem State.setFronts_occ : (s.setFronts x).occ = s.occ := rfl
@[simp] theorem State.setFronts_switch : (s.setFronts x).switch = s.switch := rfl
@[simp] theorem State.setFronts_line : (s.setFronts x).line = s.line := rfl
@[simp] theorem State.setFronts_rx : (s.setFronts x).rx = s.rx := rfl
@[simp] theorem State.setFronts_tx : (s.setFronts x).tx = s.tx := rfl
@[simp] theorem State.setFronts_service : (s.setFronts x).service = s.service := rfl
@[simp] theorem State.setFronts_again (y : Fronts) : (s.setFronts x).setFronts y = s.setFronts y := rfl
@[simp] theorem State.setFronts_mode : (s.setFronts x).mode = s.mode := rfl
@[simp] theorem State.setFronts_own : (s.setFronts x).own = s.own := rfl
@[simp] theorem State.setFronts_img : (s.setFronts x).img = s.img := rfl
@[simp] theorem State.setFronts_now : (s.setFronts x).now = s.now := rfl
@[simp] theorem State.setFronts_overriding : (s.setFronts x).overriding = s.overriding := rfl
@[simp] theorem State.setFronts_heldFlag : (s.setFronts x).heldFlag = s.heldFlag := rfl
@[simp] theorem State.setFronts_present (r : Rank) : (s.setFronts x).present r = s.present r := rfl
end Fronts

section Ranks
variable (s : State) (x : PerRank RankUnit)
@[simp] theorem State.setRanks_pending : (s.setRanks x).pending = s.pending := rfl
@[simp] theorem State.setRanks_clock : (s.setRanks x).clock = s.clock := rfl
@[simp] theorem State.setRanks_running : (s.setRanks x).running = s.running := rfl
@[simp] theorem State.setRanks_pins : (s.setRanks x).pins = s.pins := rfl
@[simp] theorem State.setRanks_dim : (s.setRanks x).dim = s.dim := rfl
@[simp] theorem State.setRanks_startUp : (s.setRanks x).startUp = s.startUp := rfl
@[simp] theorem State.setRanks_conditions : (s.setRanks x).conditions = s.conditions := rfl
@[simp] theorem State.setRanks_sampler : (s.setRanks x).sampler = s.sampler := rfl
@[simp] theorem State.setRanks_rows : (s.setRanks x).rows = s.rows := rfl
@[simp] theorem State.setRanks_levelling : (s.setRanks x).levelling = s.levelling := rfl
@[simp] theorem State.setRanks_fronts : (s.setRanks x).fronts = s.fronts := rfl
@[simp] theorem State.setRanks_ranks : (s.setRanks x).ranks = x := rfl
@[simp] theorem State.setRanks_rampClock : (s.setRanks x).rampClock = s.rampClock := rfl
@[simp] theorem State.setRanks_occ : (s.setRanks x).occ = s.occ := rfl
@[simp] theorem State.setRanks_switch : (s.setRanks x).switch = s.switch := rfl
@[simp] theorem State.setRanks_line : (s.setRanks x).line = s.line := rfl
@[simp] theorem State.setRanks_rx : (s.setRanks x).rx = s.rx := rfl
@[simp] theorem State.setRanks_tx : (s.setRanks x).tx = s.tx := rfl
@[simp] theorem State.setRanks_service : (s.setRanks x).service = s.service := rfl
@[simp] theorem State.setRanks_again (y : PerRank RankUnit) : (s.setRanks x).setRanks y = s.setRanks y := rfl
@[simp] theorem State.setRanks_mode : (s.setRanks x).mode = s.mode := rfl
@[simp] theorem State.setRanks_own : (s.setRanks x).own = s.own := rfl
@[simp] theorem State.setRanks_img : (s.setRanks x).img = s.img := rfl
@[simp] theorem State.setRanks_now : (s.setRanks x).now = s.now := rfl
@[simp] theorem State.setRanks_overriding : (s.setRanks x).overriding = s.overriding := rfl
@[simp] theorem State.setRanks_heldFlag : (s.setRanks x).heldFlag = s.heldFlag := rfl
@[simp] theorem State.setRanks_present (r : Rank) : (s.setRanks x).present r = s.present r := rfl
end Ranks

section RampClock
variable (s : State) (x : Timer)
@[simp] theorem State.setRampClock_pending : (s.setRampClock x).pending = s.pending := rfl
@[simp] theorem State.setRampClock_clock : (s.setRampClock x).clock = s.clock := rfl
@[simp] theorem State.setRampClock_running : (s.setRampClock x).running = s.running := rfl
@[simp] theorem State.setRampClock_pins : (s.setRampClock x).pins = s.pins := rfl
@[simp] theorem State.setRampClock_dim : (s.setRampClock x).dim = s.dim := rfl
@[simp] theorem State.setRampClock_startUp : (s.setRampClock x).startUp = s.startUp := rfl
@[simp] theorem State.setRampClock_conditions : (s.setRampClock x).conditions = s.conditions := rfl
@[simp] theorem State.setRampClock_sampler : (s.setRampClock x).sampler = s.sampler := rfl
@[simp] theorem State.setRampClock_rows : (s.setRampClock x).rows = s.rows := rfl
@[simp] theorem State.setRampClock_levelling : (s.setRampClock x).levelling = s.levelling := rfl
@[simp] theorem State.setRampClock_fronts : (s.setRampClock x).fronts = s.fronts := rfl
@[simp] theorem State.setRampClock_ranks : (s.setRampClock x).ranks = s.ranks := rfl
@[simp] theorem State.setRampClock_rampClock : (s.setRampClock x).rampClock = x := rfl
@[simp] theorem State.setRampClock_occ : (s.setRampClock x).occ = s.occ := rfl
@[simp] theorem State.setRampClock_switch : (s.setRampClock x).switch = s.switch := rfl
@[simp] theorem State.setRampClock_line : (s.setRampClock x).line = s.line := rfl
@[simp] theorem State.setRampClock_rx : (s.setRampClock x).rx = s.rx := rfl
@[simp] theorem State.setRampClock_tx : (s.setRampClock x).tx = s.tx := rfl
@[simp] theorem State.setRampClock_service : (s.setRampClock x).service = s.service := rfl
@[simp] theorem State.setRampClock_again (y : Timer) : (s.setRampClock x).setRampClock y = s.setRampClock y := rfl
@[simp] theorem State.setRampClock_mode : (s.setRampClock x).mode = s.mode := rfl
@[simp] theorem State.setRampClock_own : (s.setRampClock x).own = s.own := rfl
@[simp] theorem State.setRampClock_img : (s.setRampClock x).img = s.img := rfl
@[simp] theorem State.setRampClock_now : (s.setRampClock x).now = s.now := rfl
@[simp] theorem State.setRampClock_overriding : (s.setRampClock x).overriding = s.overriding := rfl
@[simp] theorem State.setRampClock_heldFlag : (s.setRampClock x).heldFlag = s.heldFlag := rfl
@[simp] theorem State.setRampClock_present (r : Rank) : (s.setRampClock x).present r = s.present r := rfl
end RampClock

section Occ
variable (s : State) (x : OccUnit)
@[simp] theorem State.setOcc_pending : (s.setOcc x).pending = s.pending := rfl
@[simp] theorem State.setOcc_clock : (s.setOcc x).clock = s.clock := rfl
@[simp] theorem State.setOcc_running : (s.setOcc x).running = s.running := rfl
@[simp] theorem State.setOcc_pins : (s.setOcc x).pins = s.pins := rfl
@[simp] theorem State.setOcc_dim : (s.setOcc x).dim = s.dim := rfl
@[simp] theorem State.setOcc_startUp : (s.setOcc x).startUp = s.startUp := rfl
@[simp] theorem State.setOcc_conditions : (s.setOcc x).conditions = s.conditions := rfl
@[simp] theorem State.setOcc_sampler : (s.setOcc x).sampler = s.sampler := rfl
@[simp] theorem State.setOcc_rows : (s.setOcc x).rows = s.rows := rfl
@[simp] theorem State.setOcc_levelling : (s.setOcc x).levelling = s.levelling := rfl
@[simp] theorem State.setOcc_fronts : (s.setOcc x).fronts = s.fronts := rfl
@[simp] theorem State.setOcc_ranks : (s.setOcc x).ranks = s.ranks := rfl
@[simp] theorem State.setOcc_rampClock : (s.setOcc x).rampClock = s.rampClock := rfl
@[simp] theorem State.setOcc_occ : (s.setOcc x).occ = x := rfl
@[simp] theorem State.setOcc_switch : (s.setOcc x).switch = s.switch := rfl
@[simp] theorem State.setOcc_line : (s.setOcc x).line = s.line := rfl
@[simp] theorem State.setOcc_rx : (s.setOcc x).rx = s.rx := rfl
@[simp] theorem State.setOcc_tx : (s.setOcc x).tx = s.tx := rfl
@[simp] theorem State.setOcc_service : (s.setOcc x).service = s.service := rfl
@[simp] theorem State.setOcc_again (y : OccUnit) : (s.setOcc x).setOcc y = s.setOcc y := rfl
@[simp] theorem State.setOcc_mode : (s.setOcc x).mode = s.mode := rfl
@[simp] theorem State.setOcc_own : (s.setOcc x).own = s.own := rfl
@[simp] theorem State.setOcc_img : (s.setOcc x).img = s.img := rfl
@[simp] theorem State.setOcc_now : (s.setOcc x).now = s.now := rfl
@[simp] theorem State.setOcc_overriding : (s.setOcc x).overriding = s.overriding := rfl
@[simp] theorem State.setOcc_heldFlag : (s.setOcc x).heldFlag = s.heldFlag := rfl
@[simp] theorem State.setOcc_present (r : Rank) : (s.setOcc x).present r = s.present r := rfl
end Occ

section Switch
variable (s : State) (x : SwitchUnit)
@[simp] theorem State.setSwitch_pending : (s.setSwitch x).pending = s.pending := rfl
@[simp] theorem State.setSwitch_clock : (s.setSwitch x).clock = s.clock := rfl
@[simp] theorem State.setSwitch_running : (s.setSwitch x).running = s.running := rfl
@[simp] theorem State.setSwitch_pins : (s.setSwitch x).pins = s.pins := rfl
@[simp] theorem State.setSwitch_dim : (s.setSwitch x).dim = s.dim := rfl
@[simp] theorem State.setSwitch_startUp : (s.setSwitch x).startUp = s.startUp := rfl
@[simp] theorem State.setSwitch_conditions : (s.setSwitch x).conditions = s.conditions := rfl
@[simp] theorem State.setSwitch_sampler : (s.setSwitch x).sampler = s.sampler := rfl
@[simp] theorem State.setSwitch_rows : (s.setSwitch x).rows = s.rows := rfl
@[simp] theorem State.setSwitch_levelling : (s.setSwitch x).levelling = s.levelling := rfl
@[simp] theorem State.setSwitch_fronts : (s.setSwitch x).fronts = s.fronts := rfl
@[simp] theorem State.setSwitch_ranks : (s.setSwitch x).ranks = s.ranks := rfl
@[simp] theorem State.setSwitch_rampClock : (s.setSwitch x).rampClock = s.rampClock := rfl
@[simp] theorem State.setSwitch_occ : (s.setSwitch x).occ = s.occ := rfl
@[simp] theorem State.setSwitch_switch : (s.setSwitch x).switch = x := rfl
@[simp] theorem State.setSwitch_line : (s.setSwitch x).line = s.line := rfl
@[simp] theorem State.setSwitch_rx : (s.setSwitch x).rx = s.rx := rfl
@[simp] theorem State.setSwitch_tx : (s.setSwitch x).tx = s.tx := rfl
@[simp] theorem State.setSwitch_service : (s.setSwitch x).service = s.service := rfl
@[simp] theorem State.setSwitch_again (y : SwitchUnit) : (s.setSwitch x).setSwitch y = s.setSwitch y := rfl
@[simp] theorem State.setSwitch_mode : (s.setSwitch x).mode = s.mode := rfl
@[simp] theorem State.setSwitch_own : (s.setSwitch x).own = s.own := rfl
@[simp] theorem State.setSwitch_img : (s.setSwitch x).img = s.img := rfl
@[simp] theorem State.setSwitch_now : (s.setSwitch x).now = s.now := rfl
@[simp] theorem State.setSwitch_heldFlag : (s.setSwitch x).heldFlag = s.heldFlag := rfl
@[simp] theorem State.setSwitch_present (r : Rank) : (s.setSwitch x).present r = s.present r := rfl
end Switch

section Line
variable (s : State) (x : Line)
@[simp] theorem State.setLine_pending : (s.setLine x).pending = s.pending := rfl
@[simp] theorem State.setLine_clock : (s.setLine x).clock = s.clock := rfl
@[simp] theorem State.setLine_running : (s.setLine x).running = s.running := rfl
@[simp] theorem State.setLine_pins : (s.setLine x).pins = s.pins := rfl
@[simp] theorem State.setLine_dim : (s.setLine x).dim = s.dim := rfl
@[simp] theorem State.setLine_startUp : (s.setLine x).startUp = s.startUp := rfl
@[simp] theorem State.setLine_conditions : (s.setLine x).conditions = s.conditions := rfl
@[simp] theorem State.setLine_sampler : (s.setLine x).sampler = s.sampler := rfl
@[simp] theorem State.setLine_rows : (s.setLine x).rows = s.rows := rfl
@[simp] theorem State.setLine_levelling : (s.setLine x).levelling = s.levelling := rfl
@[simp] theorem State.setLine_fronts : (s.setLine x).fronts = s.fronts := rfl
@[simp] theorem State.setLine_ranks : (s.setLine x).ranks = s.ranks := rfl
@[simp] theorem State.setLine_rampClock : (s.setLine x).rampClock = s.rampClock := rfl
@[simp] theorem State.setLine_occ : (s.setLine x).occ = s.occ := rfl
@[simp] theorem State.setLine_switch : (s.setLine x).switch = s.switch := rfl
@[simp] theorem State.setLine_line : (s.setLine x).line = x := rfl
@[simp] theorem State.setLine_rx : (s.setLine x).rx = s.rx := rfl
@[simp] theorem State.setLine_tx : (s.setLine x).tx = s.tx := rfl
@[simp] theorem State.setLine_service : (s.setLine x).service = s.service := rfl
@[simp] theorem State.setLine_again (y : Line) : (s.setLine x).setLine y = s.setLine y := rfl
@[simp] theorem State.setLine_mode : (s.setLine x).mode = s.mode := rfl
@[simp] theorem State.setLine_own : (s.setLine x).own = s.own := rfl
@[simp] theorem State.setLine_img : (s.setLine x).img = s.img := rfl
@[simp] theorem State.setLine_now : (s.setLine x).now = s.now := rfl
@[simp] theorem State.setLine_overriding : (s.setLine x).overriding = s.overriding := rfl
@[simp] theorem State.setLine_heldFlag : (s.setLine x).heldFlag = s.heldFlag := rfl
@[simp] theorem State.setLine_present (r : Rank) : (s.setLine x).present r = s.present r := rfl
end Line

section Rx
variable (s : State) (x : Receiver)
@[simp] theorem State.setRx_pending : (s.setRx x).pending = s.pending := rfl
@[simp] theorem State.setRx_clock : (s.setRx x).clock = s.clock := rfl
@[simp] theorem State.setRx_running : (s.setRx x).running = s.running := rfl
@[simp] theorem State.setRx_pins : (s.setRx x).pins = s.pins := rfl
@[simp] theorem State.setRx_dim : (s.setRx x).dim = s.dim := rfl
@[simp] theorem State.setRx_startUp : (s.setRx x).startUp = s.startUp := rfl
@[simp] theorem State.setRx_conditions : (s.setRx x).conditions = s.conditions := rfl
@[simp] theorem State.setRx_sampler : (s.setRx x).sampler = s.sampler := rfl
@[simp] theorem State.setRx_rows : (s.setRx x).rows = s.rows := rfl
@[simp] theorem State.setRx_levelling : (s.setRx x).levelling = s.levelling := rfl
@[simp] theorem State.setRx_fronts : (s.setRx x).fronts = s.fronts := rfl
@[simp] theorem State.setRx_ranks : (s.setRx x).ranks = s.ranks := rfl
@[simp] theorem State.setRx_rampClock : (s.setRx x).rampClock = s.rampClock := rfl
@[simp] theorem State.setRx_occ : (s.setRx x).occ = s.occ := rfl
@[simp] theorem State.setRx_switch : (s.setRx x).switch = s.switch := rfl
@[simp] theorem State.setRx_line : (s.setRx x).line = s.line := rfl
@[simp] theorem State.setRx_rx : (s.setRx x).rx = x := rfl
@[simp] theorem State.setRx_tx : (s.setRx x).tx = s.tx := rfl
@[simp] theorem State.setRx_service : (s.setRx x).service = s.service := rfl
@[simp] theorem State.setRx_again (y : Receiver) : (s.setRx x).setRx y = s.setRx y := rfl
@[simp] theorem State.setRx_mode : (s.setRx x).mode = s.mode := rfl
@[simp] theorem State.setRx_own : (s.setRx x).own = s.own := rfl
@[simp] theorem State.setRx_img : (s.setRx x).img = s.img := rfl
@[simp] theorem State.setRx_now : (s.setRx x).now = s.now := rfl
@[simp] theorem State.setRx_overriding : (s.setRx x).overriding = s.overriding := rfl
@[simp] theorem State.setRx_heldFlag : (s.setRx x).heldFlag = s.heldFlag := rfl
@[simp] theorem State.setRx_present (r : Rank) : (s.setRx x).present r = s.present r := rfl
end Rx

section Tx
variable (s : State) (x : Tx)
@[simp] theorem State.setTx_pending : (s.setTx x).pending = s.pending := rfl
@[simp] theorem State.setTx_clock : (s.setTx x).clock = s.clock := rfl
@[simp] theorem State.setTx_running : (s.setTx x).running = s.running := rfl
@[simp] theorem State.setTx_pins : (s.setTx x).pins = s.pins := rfl
@[simp] theorem State.setTx_dim : (s.setTx x).dim = s.dim := rfl
@[simp] theorem State.setTx_startUp : (s.setTx x).startUp = s.startUp := rfl
@[simp] theorem State.setTx_conditions : (s.setTx x).conditions = s.conditions := rfl
@[simp] theorem State.setTx_sampler : (s.setTx x).sampler = s.sampler := rfl
@[simp] theorem State.setTx_rows : (s.setTx x).rows = s.rows := rfl
@[simp] theorem State.setTx_levelling : (s.setTx x).levelling = s.levelling := rfl
@[simp] theorem State.setTx_fronts : (s.setTx x).fronts = s.fronts := rfl
@[simp] theorem State.setTx_ranks : (s.setTx x).ranks = s.ranks := rfl
@[simp] theorem State.setTx_rampClock : (s.setTx x).rampClock = s.rampClock := rfl
@[simp] theorem State.setTx_occ : (s.setTx x).occ = s.occ := rfl
@[simp] theorem State.setTx_switch : (s.setTx x).switch = s.switch := rfl
@[simp] theorem State.setTx_line : (s.setTx x).line = s.line := rfl
@[simp] theorem State.setTx_rx : (s.setTx x).rx = s.rx := rfl
@[simp] theorem State.setTx_tx : (s.setTx x).tx = x := rfl
@[simp] theorem State.setTx_service : (s.setTx x).service = s.service := rfl
@[simp] theorem State.setTx_again (y : Tx) : (s.setTx x).setTx y = s.setTx y := rfl
@[simp] theorem State.setTx_mode : (s.setTx x).mode = s.mode := rfl
@[simp] theorem State.setTx_own : (s.setTx x).own = s.own := rfl
@[simp] theorem State.setTx_img : (s.setTx x).img = s.img := rfl
@[simp] theorem State.setTx_now : (s.setTx x).now = s.now := rfl
@[simp] theorem State.setTx_overriding : (s.setTx x).overriding = s.overriding := rfl
@[simp] theorem State.setTx_heldFlag : (s.setTx x).heldFlag = s.heldFlag := rfl
@[simp] theorem State.setTx_present (r : Rank) : (s.setTx x).present r = s.present r := rfl
end Tx

section Service
variable (s : State) (x : Service)
@[simp] theorem State.setService_pending : (s.setService x).pending = s.pending := rfl
@[simp] theorem State.setService_clock : (s.setService x).clock = s.clock := rfl
@[simp] theorem State.setService_running : (s.setService x).running = s.running := rfl
@[simp] theorem State.setService_pins : (s.setService x).pins = s.pins := rfl
@[simp] theorem State.setService_dim : (s.setService x).dim = s.dim := rfl
@[simp] theorem State.setService_startUp : (s.setService x).startUp = s.startUp := rfl
@[simp] theorem State.setService_conditions : (s.setService x).conditions = s.conditions := rfl
@[simp] theorem State.setService_sampler : (s.setService x).sampler = s.sampler := rfl
@[simp] theorem State.setService_rows : (s.setService x).rows = s.rows := rfl
@[simp] theorem State.setService_levelling : (s.setService x).levelling = s.levelling := rfl
@[simp] theorem State.setService_fronts : (s.setService x).fronts = s.fronts := rfl
@[simp] theorem State.setService_ranks : (s.setService x).ranks = s.ranks := rfl
@[simp] theorem State.setService_rampClock : (s.setService x).rampClock = s.rampClock := rfl
@[simp] theorem State.setService_occ : (s.setService x).occ = s.occ := rfl
@[simp] theorem State.setService_switch : (s.setService x).switch = s.switch := rfl
@[simp] theorem State.setService_line : (s.setService x).line = s.line := rfl
@[simp] theorem State.setService_rx : (s.setService x).rx = s.rx := rfl
@[simp] theorem State.setService_tx : (s.setService x).tx = s.tx := rfl
@[simp] theorem State.setService_service : (s.setService x).service = x := rfl
@[simp] theorem State.setService_again (y : Service) : (s.setService x).setService y = s.setService y := rfl
@[simp] theorem State.setService_mode : (s.setService x).mode = s.mode := rfl
@[simp] theorem State.setService_own : (s.setService x).own = s.own := rfl
@[simp] theorem State.setService_img : (s.setService x).img = s.img := rfl
@[simp] theorem State.setService_now : (s.setService x).now = s.now := rfl
@[simp] theorem State.setService_overriding : (s.setService x).overriding = s.overriding := rfl
@[simp] theorem State.setService_present (r : Rank) : (s.setService x).present r = s.present r := rfl
end Service

section Pins
variable (s : State) (x : Pins)
@[simp] theorem State.setPins_pending : (s.setPins x).pending = s.pending := rfl
@[simp] theorem State.setPins_clock : (s.setPins x).clock = s.clock := rfl
@[simp] theorem State.setPins_running : (s.setPins x).running = s.running := rfl
@[simp] theorem State.setPins_pins : (s.setPins x).pins = x := rfl
@[simp] theorem State.setPins_dim : (s.setPins x).dim = s.dim := rfl
@[simp] theorem State.setPins_startUp : (s.setPins x).startUp = s.startUp := rfl
@[simp] theorem State.setPins_conditions : (s.setPins x).conditions = s.conditions := rfl
@[simp] theorem State.setPins_sampler : (s.setPins x).sampler = s.sampler := rfl
@[simp] theorem State.setPins_rows : (s.setPins x).rows = s.rows := rfl
@[simp] theorem State.setPins_levelling : (s.setPins x).levelling = s.levelling := rfl
@[simp] theorem State.setPins_fronts : (s.setPins x).fronts = s.fronts := rfl
@[simp] theorem State.setPins_ranks : (s.setPins x).ranks = s.ranks := rfl
@[simp] theorem State.setPins_rampClock : (s.setPins x).rampClock = s.rampClock := rfl
@[simp] theorem State.setPins_occ : (s.setPins x).occ = s.occ := rfl
@[simp] theorem State.setPins_switch : (s.setPins x).switch = s.switch := rfl
@[simp] theorem State.setPins_line : (s.setPins x).line = s.line := rfl
@[simp] theorem State.setPins_rx : (s.setPins x).rx = s.rx := rfl
@[simp] theorem State.setPins_tx : (s.setPins x).tx = s.tx := rfl
@[simp] theorem State.setPins_service : (s.setPins x).service = s.service := rfl
@[simp] theorem State.setPins_again (y : Pins) : (s.setPins x).setPins y = s.setPins y := rfl
@[simp] theorem State.setPins_mode : (s.setPins x).mode = s.mode := rfl
@[simp] theorem State.setPins_own : (s.setPins x).own = s.own := rfl
@[simp] theorem State.setPins_img : (s.setPins x).img = s.img := rfl
@[simp] theorem State.setPins_now : (s.setPins x).now = s.now := rfl
@[simp] theorem State.setPins_overriding : (s.setPins x).overriding = s.overriding := rfl
@[simp] theorem State.setPins_heldFlag : (s.setPins x).heldFlag = s.heldFlag := rfl
@[simp] theorem State.setPins_present (r : Rank) : (s.setPins x).present r = s.present r := rfl
end Pins

end Sys2Proof.Machine
end

