-- ==== Sys2Proof/Laws/Ops.lean ====
section
/-! SUPPORT. The clock, the pins and the condition set: what each shared operation leaves as it was, and
what the small ones do. -/

namespace Sys2Proof

/-! ## One thing a rank -/

@[simp] theorem PerRank.get_of {α : Type} (f : Rank → α) (r : Rank) : (PerRank.of f).get r = f r := by
  cases r <;> rfl

@[simp] theorem PerRank.get_const {α : Type} (x : α) (r : Rank) : (PerRank.const x).get r = x := by
  cases r <;> rfl

theorem PerRank.get_set {α : Type} (p : PerRank α) (r r' : Rank) (x : α) :
    (p.set r x).get r' = if r' = r then x else p.get r' := by
  cases r <;> cases r' <;> rfl

/-- Two triples alike at every rank are the same. -/
theorem PerRank.ext_get {α : Type} {p q : PerRank α} (h : ∀ r, p.get r = q.get r) : p = q := by
  cases p; cases q
  have ha := h .a; have hb := h .b; have hc := h .c
  simp only [PerRank.get] at ha hb hc
  simp [ha, hb, hc]

end Sys2Proof

namespace Sys2Proof.Machine

/-! ## Time and the running part -/

@[simp] theorem State.live_running {s : State} (h : s.running = true) (e : State → State) :
    s.live e = e s := by simp [State.live, h]

@[simp] theorem State.live_held {s : State} (h : s.running = false) (e : State → State) :
    s.live e = s := by simp [State.live, h]

@[simp] theorem State.onExpiry_none (s : State) (n : Nat) (e : Nat → State → State) :
    s.onExpiry none n e = s := rfl

@[simp] theorem State.onExpiry_some (s : State) (t n : Nat) (e : Nat → State → State) :
    s.onExpiry (some t) n e = e (t + n) (s.advanceTo (t + n)) := rfl

theorem State.advanceTo_clock (s : State) (t : Nat) : (s.advanceTo t).clock = max s.clock t := by
  unfold State.advanceTo
  split
  · next h => exact (Nat.max_eq_left h).symm
  · next h => exact (Nat.max_eq_right (Nat.le_of_lt (Nat.lt_of_not_le h))).symm

theorem State.advanceTo_past (s : State) {t : Nat} (h : t ≤ s.clock) : s.advanceTo t = s := by
  simp [State.advanceTo, h]

/-! ## The condition set -/

theorem Condition.word_bit (c d : Condition) : c.word.getLsbD d.bit = decide (d = c) := by
  cases c <;> cases d <;> rfl

/-- What a latch does to every condition (R181). -/
@[simp] theorem State.latched_latch (s : State) (c d : Condition) :
    (s.latch c).latched d = (s.latched d || decide (d = c)) := by
  simp [State.latch, State.latched, Condition.word_bit]

@[simp] theorem State.latched_latchIf (s : State) (b : Bool) (c d : Condition) :
    (s.latchIf b c).latched d = (s.latched d || (b && decide (d = c))) := by
  cases b <;> simp [State.latchIf]

/-! ## What each leaves as it was -/

@[simp] theorem State.advanceTo_keeps (s : State) (t : Nat) :
    (s.advanceTo t).pending = s.pending ∧ (s.advanceTo t).running = s.running ∧ (s.advanceTo t).pins = s.pins
      ∧ (s.advanceTo t).startUp = s.startUp ∧ (s.advanceTo t).conditions = s.conditions
      ∧ (s.advanceTo t).sampler = s.sampler ∧ (s.advanceTo t).rows = s.rows
      ∧ (s.advanceTo t).levelling = s.levelling ∧ (s.advanceTo t).fronts = s.fronts
      ∧ (s.advanceTo t).ranks = s.ranks ∧ (s.advanceTo t).rampClock = s.rampClock
      ∧ (s.advanceTo t).occ = s.occ ∧ (s.advanceTo t).switch = s.switch ∧ (s.advanceTo t).line = s.line
      ∧ (s.advanceTo t).rx = s.rx ∧ (s.advanceTo t).tx = s.tx ∧ (s.advanceTo t).service = s.service := by
  dsimp only [State.advanceTo]
  repeat' split
  all_goals simp

@[simp] theorem State.advanceToTime_keeps (s : State) (t : Time) :
    (s.advanceToTime t).pending = s.pending ∧ (s.advanceToTime t).running = s.running
      ∧ (s.advanceToTime t).pins = s.pins ∧ (s.advanceToTime t).startUp = s.startUp
      ∧ (s.advanceToTime t).conditions = s.conditions ∧ (s.advanceToTime t).sampler = s.sampler
      ∧ (s.advanceToTime t).rows = s.rows ∧ (s.advanceToTime t).levelling = s.levelling
      ∧ (s.advanceToTime t).fronts = s.fronts ∧ (s.advanceToTime t).ranks = s.ranks
      ∧ (s.advanceToTime t).rampClock = s.rampClock ∧ (s.advanceToTime t).occ = s.occ
      ∧ (s.advanceToTime t).switch = s.switch ∧ (s.advanceToTime t).line = s.line
      ∧ (s.advanceToTime t).rx = s.rx ∧ (s.advanceToTime t).tx = s.tx
      ∧ (s.advanceToTime t).service = s.service := by
  dsimp only [State.advanceToTime]
  repeat' split
  all_goals simp

@[simp] theorem State.showStraps_keeps (s : State) (x : BitVec 6) :
    (s.showStraps x).pending = s.pending ∧ (s.showStraps x).clock = s.clock
      ∧ (s.showStraps x).running = s.running ∧ (s.showStraps x).dim = s.dim
      ∧ (s.showStraps x).startUp = s.startUp ∧ (s.showStraps x).conditions = s.conditions
      ∧ (s.showStraps x).sampler = s.sampler ∧ (s.showStraps x).rows = s.rows
      ∧ (s.showStraps x).levelling = s.levelling ∧ (s.showStraps x).fronts = s.fronts
      ∧ (s.showStraps x).ranks = s.ranks ∧ (s.showStraps x).rampClock = s.rampClock
      ∧ (s.showStraps x).occ = s.occ ∧ (s.showStraps x).switch = s.switch ∧ (s.showStraps x).line = s.line
      ∧ (s.showStraps x).rx = s.rx ∧ (s.showStraps x).tx = s.tx ∧ (s.showStraps x).service = s.service := by
  dsimp only [State.showStraps]
  all_goals simp

@[simp] theorem State.latch_keeps (s : State) (c : Condition) :
    (s.latch c).pending = s.pending ∧ (s.latch c).clock = s.clock ∧ (s.latch c).running = s.running
      ∧ (s.latch c).pins = s.pins ∧ (s.latch c).dim = s.dim ∧ (s.latch c).startUp = s.startUp
      ∧ (s.latch c).sampler = s.sampler ∧ (s.latch c).rows = s.rows ∧ (s.latch c).levelling = s.levelling
      ∧ (s.latch c).fronts = s.fronts ∧ (s.latch c).ranks = s.ranks ∧ (s.latch c).rampClock = s.rampClock
      ∧ (s.latch c).occ = s.occ ∧ (s.latch c).switch = s.switch ∧ (s.latch c).line = s.line
      ∧ (s.latch c).rx = s.rx ∧ (s.latch c).tx = s.tx ∧ (s.latch c).service = s.service := by
  dsimp only [State.latch]
  all_goals simp

@[simp] theorem State.latchIf_keeps (s : State) (b : Bool) (c : Condition) :
    (s.latchIf b c).pending = s.pending ∧ (s.latchIf b c).clock = s.clock
      ∧ (s.latchIf b c).running = s.running ∧ (s.latchIf b c).pins = s.pins ∧ (s.latchIf b c).dim = s.dim
      ∧ (s.latchIf b c).startUp = s.startUp ∧ (s.latchIf b c).sampler = s.sampler
      ∧ (s.latchIf b c).rows = s.rows ∧ (s.latchIf b c).levelling = s.levelling
      ∧ (s.latchIf b c).fronts = s.fronts ∧ (s.latchIf b c).ranks = s.ranks
      ∧ (s.latchIf b c).rampClock = s.rampClock ∧ (s.latchIf b c).occ = s.occ
      ∧ (s.latchIf b c).switch = s.switch ∧ (s.latchIf b c).line = s.line ∧ (s.latchIf b c).rx = s.rx
      ∧ (s.latchIf b c).tx = s.tx ∧ (s.latchIf b c).service = s.service := by
  dsimp only [State.latchIf]
  repeat' split
  all_goals simp

@[simp] theorem State.clearConditions_keeps (s : State) (w : Half) :
    (s.clearConditions w).pending = s.pending ∧ (s.clearConditions w).clock = s.clock
      ∧ (s.clearConditions w).running = s.running ∧ (s.clearConditions w).pins = s.pins
      ∧ (s.clearConditions w).dim = s.dim ∧ (s.clearConditions w).startUp = s.startUp
      ∧ (s.clearConditions w).sampler = s.sampler ∧ (s.clearConditions w).rows = s.rows
      ∧ (s.clearConditions w).levelling = s.levelling ∧ (s.clearConditions w).fronts = s.fronts
      ∧ (s.clearConditions w).ranks = s.ranks ∧ (s.clearConditions w).rampClock = s.rampClock
      ∧ (s.clearConditions w).occ = s.occ ∧ (s.clearConditions w).switch = s.switch
      ∧ (s.clearConditions w).line = s.line ∧ (s.clearConditions w).rx = s.rx
      ∧ (s.clearConditions w).tx = s.tx ∧ (s.clearConditions w).service = s.service := by
  dsimp only [State.clearConditions]
  all_goals simp

end Sys2Proof.Machine
end

