-- ==== Sys2Proof/Laws/Claims.lean ====
section
/-! SUPPORT. The arbiters, the ramp generators and the published goals: what each shared operation
leaves as it was, and what the small ones do. -/

namespace Sys2Proof.Machine

/-! ## The arbiter and the generator of one rank -/

@[simp] theorem Ramp.handOff_keeps (g : Ramp) (t : Nat) (u : Rule) :
    (g.handOff t u).output = g.output ∧ (g.handOff t u).target = t ∧ (g.handOff t u).rule = some u
      ∧ (g.handOff t u).before = g.before ∧ (g.handOff t u).assertedRun = g.assertedRun
      ∧ (g.handOff t u).clearRun = g.clearRun ∧ (g.handOff t u).faulted = g.faulted := by
  unfold Ramp.handOff; split <;> simp

@[simp] theorem Ramp.freeze_keeps (g : Ramp) :
    g.freeze.output = g.output ∧ g.freeze.target = g.target ∧ g.freeze.rule = g.rule
      ∧ g.freeze.acc = g.acc ∧ g.freeze.state = .frozen ∧ g.freeze.assertedRun = g.assertedRun
      ∧ g.freeze.clearRun = g.clearRun ∧ g.freeze.faulted = g.faulted := by
  unfold Ramp.freeze; split <;> simp_all

@[simp] theorem Ramp.thaw_keeps (g : Ramp) :
    g.thaw.output = g.output ∧ g.thaw.target = g.target ∧ g.thaw.rule = g.rule ∧ g.thaw.acc = g.acc
      ∧ g.thaw.assertedRun = g.assertedRun ∧ g.thaw.clearRun = g.clearRun
      ∧ g.thaw.faulted = g.faulted := by
  unfold Ramp.thaw; split <;> simp

/-- A thawed generator is not FROZEN, so a hand-off sets its state. -/
theorem Ramp.thaw_not_frozen (g : Ramp) : g.thaw.state ≠ .frozen := by
  unfold Ramp.thaw
  split
  · cases g.before with
    | none => simp [RampState.along]
    | some d => cases d <;> simp [RampState.along]
  · assumption

@[simp] theorem Ramp.move_keeps (g : Ramp) :
    g.move.target = g.target ∧ g.move.rule = g.rule ∧ g.move.before = g.before
      ∧ g.move.assertedRun = g.assertedRun ∧ g.move.clearRun = g.clearRun
      ∧ g.move.faulted = g.faulted := by
  dsimp only [Ramp.move]; repeat' split
  all_goals simp

@[simp] theorem Ramp.sense_keeps (b : Bool) (g : Ramp) :
    (g.sense b).output = g.output ∧ (g.sense b).target = g.target ∧ (g.sense b).rule = g.rule
      ∧ (g.sense b).acc = g.acc ∧ (g.sense b).state = g.state ∧ (g.sense b).before = g.before := by
  dsimp only [Ramp.sense]; repeat' split
  all_goals simp

/-- A re-choice changes neither the claims nor what the fault sense and the output show. -/
@[simp] theorem RankUnit.reChoose_keeps (m : Mask) (u : RankUnit) :
    (u.reChoose m).claims = u.claims ∧ (u.reChoose m).ramp.output = u.ramp.output
      ∧ (u.reChoose m).ramp.assertedRun = u.ramp.assertedRun
      ∧ (u.reChoose m).ramp.clearRun = u.ramp.clearRun
      ∧ (u.reChoose m).ramp.faulted = u.ramp.faulted := by
  unfold RankUnit.reChoose; split <;> simp

@[simp] theorem RankUnit.change_keeps (b : Bool) (m : Mask) (f : Claims → Claims) (u : RankUnit) :
    (u.change b m f).claims = f u.claims ∧ (u.change b m f).ramp.output = u.ramp.output
      ∧ (u.change b m f).ramp.assertedRun = u.ramp.assertedRun
      ∧ (u.change b m f).ramp.clearRun = u.ramp.clearRun
      ∧ (u.change b m f).ramp.faulted = u.ramp.faulted := by
  dsimp only [RankUnit.change]; repeat' split
  all_goals simp_all

/-- Something done to each present rank, seen at one rank. -/
theorem State.onPresent_get (s : State) (f : Rank → RankUnit → RankUnit) (r : Rank) :
    (s.onPresent f).ranks.get r
      = if s.present r then f r (s.ranks.get r) else s.ranks.get r := by
  simp [State.onPresent]

/-- A change of claims, seen at one rank. -/
theorem State.changeClaims_get (s : State) (f : Rank → Claims → Claims) (r : Rank) :
    (s.changeClaims f).ranks.get r
      = if s.present r then (s.ranks.get r).change s.service.choosing (s.img.mask.get r) (f r)
        else s.ranks.get r := by
  simp [State.changeClaims, State.onPresent_get]

theorem State.endFreeze_get (s : State) (r : Rank) :
    s.endFreeze.ranks.get r
      = if s.present r then
          RankUnit.reChoose (s.img.mask.get r)
            { s.ranks.get r with ramp := (s.ranks.get r).ramp.thaw }
        else s.ranks.get r := by
  simp [State.endFreeze, State.onPresent_get]

theorem State.freezeRamps_get (s : State) (r : Rank) :
    s.freezeRamps.ranks.get r
      = if s.present r then { s.ranks.get r with ramp := (s.ranks.get r).ramp.freeze }
        else s.ranks.get r := by
  simp [State.freezeRamps, State.onPresent_get]

theorem State.moveRamps_get (s : State) (f : Rank → Bool) (r : Rank) :
    (s.moveRamps f).ranks.get r
      = if s.present r ∧ f r then { s.ranks.get r with ramp := (s.ranks.get r).ramp.move }
        else s.ranks.get r := by
  cases h : s.present r <;> cases k : f r <;> simp [State.moveRamps, State.onPresent_get, h, k]

/-! ## What each leaves as it was -/

@[simp] theorem State.onPresent_keeps (s : State) (f : Rank → RankUnit → RankUnit) :
    (s.onPresent f).pending = s.pending ∧ (s.onPresent f).clock = s.clock
      ∧ (s.onPresent f).running = s.running ∧ (s.onPresent f).pins = s.pins ∧ (s.onPresent f).dim = s.dim
      ∧ (s.onPresent f).startUp = s.startUp ∧ (s.onPresent f).conditions = s.conditions
      ∧ (s.onPresent f).sampler = s.sampler ∧ (s.onPresent f).rows = s.rows
      ∧ (s.onPresent f).levelling = s.levelling ∧ (s.onPresent f).fronts = s.fronts
      ∧ (s.onPresent f).rampClock = s.rampClock ∧ (s.onPresent f).occ = s.occ
      ∧ (s.onPresent f).switch = s.switch ∧ (s.onPresent f).line = s.line ∧ (s.onPresent f).rx = s.rx
      ∧ (s.onPresent f).tx = s.tx ∧ (s.onPresent f).service = s.service := by
  dsimp only [State.onPresent]
  all_goals simp

@[simp] theorem State.changeClaims_keeps (s : State) (f : Rank → Claims → Claims) :
    (s.changeClaims f).pending = s.pending ∧ (s.changeClaims f).clock = s.clock
      ∧ (s.changeClaims f).running = s.running ∧ (s.changeClaims f).pins = s.pins
      ∧ (s.changeClaims f).dim = s.dim ∧ (s.changeClaims f).startUp = s.startUp
      ∧ (s.changeClaims f).conditions = s.conditions ∧ (s.changeClaims f).sampler = s.sampler
      ∧ (s.changeClaims f).rows = s.rows ∧ (s.changeClaims f).levelling = s.levelling
      ∧ (s.changeClaims f).fronts = s.fronts ∧ (s.changeClaims f).rampClock = s.rampClock
      ∧ (s.changeClaims f).occ = s.occ ∧ (s.changeClaims f).switch = s.switch
      ∧ (s.changeClaims f).line = s.line ∧ (s.changeClaims f).rx = s.rx ∧ (s.changeClaims f).tx = s.tx
      ∧ (s.changeClaims f).service = s.service := by
  dsimp only [State.changeClaims]
  all_goals simp

@[simp] theorem State.endFreeze_keeps (s : State) :
    s.endFreeze.pending = s.pending ∧ s.endFreeze.clock = s.clock ∧ s.endFreeze.running = s.running
      ∧ s.endFreeze.pins = s.pins ∧ s.endFreeze.dim = s.dim ∧ s.endFreeze.startUp = s.startUp
      ∧ s.endFreeze.conditions = s.conditions ∧ s.endFreeze.sampler = s.sampler ∧ s.endFreeze.rows = s.rows
      ∧ s.endFreeze.levelling = s.levelling ∧ s.endFreeze.fronts = s.fronts
      ∧ s.endFreeze.rampClock = s.rampClock ∧ s.endFreeze.occ = s.occ ∧ s.endFreeze.switch = s.switch
      ∧ s.endFreeze.line = s.line ∧ s.endFreeze.rx = s.rx ∧ s.endFreeze.tx = s.tx
      ∧ s.endFreeze.service = s.service := by
  dsimp only [State.endFreeze]
  all_goals simp

@[simp] theorem State.freezeRamps_keeps (s : State) :
    s.freezeRamps.pending = s.pending ∧ s.freezeRamps.clock = s.clock ∧ s.freezeRamps.running = s.running
      ∧ s.freezeRamps.pins = s.pins ∧ s.freezeRamps.dim = s.dim ∧ s.freezeRamps.startUp = s.startUp
      ∧ s.freezeRamps.conditions = s.conditions ∧ s.freezeRamps.sampler = s.sampler
      ∧ s.freezeRamps.rows = s.rows ∧ s.freezeRamps.levelling = s.levelling ∧ s.freezeRamps.fronts = s.fronts
      ∧ s.freezeRamps.rampClock = s.rampClock ∧ s.freezeRamps.occ = s.occ ∧ s.freezeRamps.switch = s.switch
      ∧ s.freezeRamps.line = s.line ∧ s.freezeRamps.rx = s.rx ∧ s.freezeRamps.tx = s.tx
      ∧ s.freezeRamps.service = s.service := by
  dsimp only [State.freezeRamps]
  all_goals simp

@[simp] theorem State.publishGoals_keeps (s : State) :
    s.publishGoals.pending = s.pending ∧ s.publishGoals.clock = s.clock ∧ s.publishGoals.running = s.running
      ∧ s.publishGoals.pins = s.pins ∧ s.publishGoals.dim = s.dim ∧ s.publishGoals.startUp = s.startUp
      ∧ s.publishGoals.conditions = s.conditions ∧ s.publishGoals.sampler = s.sampler
      ∧ s.publishGoals.rows = s.rows ∧ s.publishGoals.fronts = s.fronts ∧ s.publishGoals.ranks = s.ranks
      ∧ s.publishGoals.rampClock = s.rampClock ∧ s.publishGoals.occ = s.occ
      ∧ s.publishGoals.switch = s.switch ∧ s.publishGoals.line = s.line ∧ s.publishGoals.rx = s.rx
      ∧ s.publishGoals.tx = s.tx ∧ s.publishGoals.service = s.service := by
  dsimp only [State.publishGoals]
  all_goals simp

@[simp] theorem State.clearAbsentRanks_keeps (s : State) :
    s.clearAbsentRanks.pending = s.pending ∧ s.clearAbsentRanks.clock = s.clock
      ∧ s.clearAbsentRanks.running = s.running ∧ s.clearAbsentRanks.pins = s.pins
      ∧ s.clearAbsentRanks.dim = s.dim ∧ s.clearAbsentRanks.startUp = s.startUp
      ∧ s.clearAbsentRanks.conditions = s.conditions ∧ s.clearAbsentRanks.sampler = s.sampler
      ∧ s.clearAbsentRanks.rows = s.rows ∧ s.clearAbsentRanks.levelling = s.levelling
      ∧ s.clearAbsentRanks.fronts = s.fronts ∧ s.clearAbsentRanks.rampClock = s.rampClock
      ∧ s.clearAbsentRanks.occ = s.occ ∧ s.clearAbsentRanks.switch = s.switch
      ∧ s.clearAbsentRanks.line = s.line ∧ s.clearAbsentRanks.rx = s.rx ∧ s.clearAbsentRanks.tx = s.tx
      ∧ s.clearAbsentRanks.service = s.service := by
  dsimp only [State.clearAbsentRanks]
  all_goals simp

@[simp] theorem State.restartRanks_keeps (s : State) :
    s.restartRanks.pending = s.pending ∧ s.restartRanks.clock = s.clock ∧ s.restartRanks.running = s.running
      ∧ s.restartRanks.pins = s.pins ∧ s.restartRanks.dim = s.dim ∧ s.restartRanks.startUp = s.startUp
      ∧ s.restartRanks.conditions = s.conditions ∧ s.restartRanks.sampler = s.sampler
      ∧ s.restartRanks.rows = s.rows ∧ s.restartRanks.levelling = s.levelling
      ∧ s.restartRanks.fronts = s.fronts ∧ s.restartRanks.rampClock = s.rampClock
      ∧ s.restartRanks.occ = s.occ ∧ s.restartRanks.switch = s.switch ∧ s.restartRanks.line = s.line
      ∧ s.restartRanks.rx = s.rx ∧ s.restartRanks.tx = s.tx ∧ s.restartRanks.service = s.service := by
  dsimp only [State.restartRanks]
  all_goals simp

@[simp] theorem State.latchFault_keeps (s : State) (flt : PerRank Bool) (r : Rank) :
    (s.latchFault flt r).pending = s.pending ∧ (s.latchFault flt r).clock = s.clock
      ∧ (s.latchFault flt r).running = s.running ∧ (s.latchFault flt r).pins = s.pins
      ∧ (s.latchFault flt r).dim = s.dim ∧ (s.latchFault flt r).startUp = s.startUp
      ∧ (s.latchFault flt r).sampler = s.sampler ∧ (s.latchFault flt r).rows = s.rows
      ∧ (s.latchFault flt r).levelling = s.levelling ∧ (s.latchFault flt r).fronts = s.fronts
      ∧ (s.latchFault flt r).ranks = s.ranks ∧ (s.latchFault flt r).rampClock = s.rampClock
      ∧ (s.latchFault flt r).occ = s.occ ∧ (s.latchFault flt r).switch = s.switch
      ∧ (s.latchFault flt r).line = s.line ∧ (s.latchFault flt r).rx = s.rx ∧ (s.latchFault flt r).tx = s.tx
      ∧ (s.latchFault flt r).service = s.service := by
  dsimp only [State.latchFault]
  all_goals simp

@[simp] theorem State.senseFaults_keeps (s : State) (flt : PerRank Bool) :
    (s.senseFaults flt).pending = s.pending ∧ (s.senseFaults flt).clock = s.clock
      ∧ (s.senseFaults flt).running = s.running ∧ (s.senseFaults flt).dim = s.dim
      ∧ (s.senseFaults flt).startUp = s.startUp ∧ (s.senseFaults flt).sampler = s.sampler
      ∧ (s.senseFaults flt).rows = s.rows ∧ (s.senseFaults flt).levelling = s.levelling
      ∧ (s.senseFaults flt).fronts = s.fronts ∧ (s.senseFaults flt).rampClock = s.rampClock
      ∧ (s.senseFaults flt).occ = s.occ ∧ (s.senseFaults flt).switch = s.switch
      ∧ (s.senseFaults flt).line = s.line ∧ (s.senseFaults flt).rx = s.rx ∧ (s.senseFaults flt).tx = s.tx
      ∧ (s.senseFaults flt).service = s.service := by
  dsimp only [State.senseFaults]
  all_goals simp

@[simp] theorem State.moveRamps_keeps (s : State) (f : Rank → Bool) :
    (s.moveRamps f).pending = s.pending ∧ (s.moveRamps f).clock = s.clock
      ∧ (s.moveRamps f).running = s.running ∧ (s.moveRamps f).pins = s.pins ∧ (s.moveRamps f).dim = s.dim
      ∧ (s.moveRamps f).startUp = s.startUp ∧ (s.moveRamps f).conditions = s.conditions
      ∧ (s.moveRamps f).sampler = s.sampler ∧ (s.moveRamps f).rows = s.rows
      ∧ (s.moveRamps f).levelling = s.levelling ∧ (s.moveRamps f).fronts = s.fronts
      ∧ (s.moveRamps f).rampClock = s.rampClock ∧ (s.moveRamps f).occ = s.occ
      ∧ (s.moveRamps f).switch = s.switch ∧ (s.moveRamps f).line = s.line ∧ (s.moveRamps f).rx = s.rx
      ∧ (s.moveRamps f).tx = s.tx ∧ (s.moveRamps f).service = s.service := by
  dsimp only [State.moveRamps]
  all_goals simp

@[simp] theorem State.enterHeld_keeps (s : State) (c : HoldCause) :
    (s.enterHeld c).pending = s.pending ∧ (s.enterHeld c).clock = s.clock
      ∧ (s.enterHeld c).running = s.running ∧ (s.enterHeld c).pins = s.pins ∧ (s.enterHeld c).dim = s.dim
      ∧ (s.enterHeld c).startUp = s.startUp ∧ (s.enterHeld c).conditions = s.conditions
      ∧ (s.enterHeld c).sampler = s.sampler ∧ (s.enterHeld c).rows = s.rows
      ∧ (s.enterHeld c).levelling = s.levelling ∧ (s.enterHeld c).fronts = s.fronts
      ∧ (s.enterHeld c).rampClock = s.rampClock ∧ (s.enterHeld c).occ = s.occ
      ∧ (s.enterHeld c).switch = s.switch ∧ (s.enterHeld c).line = s.line ∧ (s.enterHeld c).rx = s.rx
      ∧ (s.enterHeld c).tx = s.tx := by
  dsimp only [State.enterHeld]
  all_goals simp

@[simp] theorem State.enterHeld_service (s : State) (c : HoldCause) :
    (s.enterHeld c).service = { s.service with hold := .held, cause := some c, matching := none } := by
  simp [State.enterHeld]

@[simp] theorem State.rampMotion_keeps (s : State) (b : PerRank Bool) :
    (s.rampMotion b).pending = s.pending ∧ (s.rampMotion b).clock = s.clock
      ∧ (s.rampMotion b).running = s.running ∧ (s.rampMotion b).pins = s.pins ∧ (s.rampMotion b).dim = s.dim
      ∧ (s.rampMotion b).startUp = s.startUp ∧ (s.rampMotion b).conditions = s.conditions
      ∧ (s.rampMotion b).sampler = s.sampler ∧ (s.rampMotion b).rows = s.rows
      ∧ (s.rampMotion b).levelling = s.levelling ∧ (s.rampMotion b).fronts = s.fronts
      ∧ (s.rampMotion b).rampClock = s.rampClock ∧ (s.rampMotion b).occ = s.occ
      ∧ (s.rampMotion b).switch = s.switch ∧ (s.rampMotion b).line = s.line ∧ (s.rampMotion b).rx = s.rx
      ∧ (s.rampMotion b).tx = s.tx := by
  dsimp only [State.rampMotion]
  repeat' split
  all_goals simp

end Sys2Proof.Machine
end

