-- ==== Sys2Proof/Laws/Wire.lean ====
section
/-! SUPPORT. ROW as a wire: what each shared operation leaves as it was, and what the small ones do. -/

namespace Sys2Proof.Machine

@[simp] theorem State.sampleTo_keeps (s : State) (t : Nat) :
    (s.sampleTo t).pending = s.pending ∧ (s.sampleTo t).clock = s.clock ∧ (s.sampleTo t).running = s.running
      ∧ (s.sampleTo t).pins = s.pins ∧ (s.sampleTo t).dim = s.dim ∧ (s.sampleTo t).startUp = s.startUp
      ∧ (s.sampleTo t).conditions = s.conditions ∧ (s.sampleTo t).sampler = s.sampler
      ∧ (s.sampleTo t).rows = s.rows ∧ (s.sampleTo t).levelling = s.levelling
      ∧ (s.sampleTo t).fronts = s.fronts ∧ (s.sampleTo t).ranks = s.ranks
      ∧ (s.sampleTo t).rampClock = s.rampClock ∧ (s.sampleTo t).occ = s.occ
      ∧ (s.sampleTo t).switch = s.switch ∧ (s.sampleTo t).line = s.line ∧ (s.sampleTo t).tx = s.tx
      ∧ (s.sampleTo t).service = s.service := by
  dsimp only [State.sampleTo]
  all_goals simp

@[simp] theorem State.rxSearch_keeps (s : State) :
    s.rxSearch.pending = s.pending ∧ s.rxSearch.clock = s.clock ∧ s.rxSearch.running = s.running
      ∧ s.rxSearch.pins = s.pins ∧ s.rxSearch.dim = s.dim ∧ s.rxSearch.startUp = s.startUp
      ∧ s.rxSearch.conditions = s.conditions ∧ s.rxSearch.sampler = s.sampler ∧ s.rxSearch.rows = s.rows
      ∧ s.rxSearch.levelling = s.levelling ∧ s.rxSearch.fronts = s.fronts ∧ s.rxSearch.ranks = s.ranks
      ∧ s.rxSearch.rampClock = s.rampClock ∧ s.rxSearch.occ = s.occ ∧ s.rxSearch.switch = s.switch
      ∧ s.rxSearch.line = s.line ∧ s.rxSearch.tx = s.tx ∧ s.rxSearch.service = s.service := by
  dsimp only [State.rxSearch]
  all_goals simp

@[simp] theorem State.discardFrame_keeps (s : State) (b : Bool) :
    (s.discardFrame b).pending = s.pending ∧ (s.discardFrame b).clock = s.clock
      ∧ (s.discardFrame b).running = s.running ∧ (s.discardFrame b).pins = s.pins
      ∧ (s.discardFrame b).dim = s.dim ∧ (s.discardFrame b).startUp = s.startUp
      ∧ (s.discardFrame b).sampler = s.sampler ∧ (s.discardFrame b).rows = s.rows
      ∧ (s.discardFrame b).levelling = s.levelling ∧ (s.discardFrame b).fronts = s.fronts
      ∧ (s.discardFrame b).ranks = s.ranks ∧ (s.discardFrame b).rampClock = s.rampClock
      ∧ (s.discardFrame b).occ = s.occ ∧ (s.discardFrame b).switch = s.switch
      ∧ (s.discardFrame b).line = s.line ∧ (s.discardFrame b).tx = s.tx
      ∧ (s.discardFrame b).service = s.service := by
  dsimp only [State.discardFrame]
  all_goals simp

@[simp] theorem State.discardAbandoned_keeps (s : State) :
    s.discardAbandoned.pending = s.pending ∧ s.discardAbandoned.clock = s.clock
      ∧ s.discardAbandoned.running = s.running ∧ s.discardAbandoned.pins = s.pins
      ∧ s.discardAbandoned.dim = s.dim ∧ s.discardAbandoned.startUp = s.startUp
      ∧ s.discardAbandoned.sampler = s.sampler ∧ s.discardAbandoned.rows = s.rows
      ∧ s.discardAbandoned.levelling = s.levelling ∧ s.discardAbandoned.fronts = s.fronts
      ∧ s.discardAbandoned.ranks = s.ranks ∧ s.discardAbandoned.rampClock = s.rampClock
      ∧ s.discardAbandoned.occ = s.occ ∧ s.discardAbandoned.switch = s.switch
      ∧ s.discardAbandoned.line = s.line ∧ s.discardAbandoned.tx = s.tx
      ∧ s.discardAbandoned.service = s.service := by
  dsimp only [State.discardAbandoned]
  repeat' split
  all_goals simp

@[simp] theorem State.startEdge_keeps (s : State) (t : Nat) :
    (s.startEdge t).pending = s.pending ∧ (s.startEdge t).clock = s.clock
      ∧ (s.startEdge t).running = s.running ∧ (s.startEdge t).pins = s.pins ∧ (s.startEdge t).dim = s.dim
      ∧ (s.startEdge t).startUp = s.startUp ∧ (s.startEdge t).sampler = s.sampler
      ∧ (s.startEdge t).rows = s.rows ∧ (s.startEdge t).levelling = s.levelling
      ∧ (s.startEdge t).fronts = s.fronts ∧ (s.startEdge t).ranks = s.ranks
      ∧ (s.startEdge t).rampClock = s.rampClock ∧ (s.startEdge t).occ = s.occ
      ∧ (s.startEdge t).switch = s.switch ∧ (s.startEdge t).line = s.line ∧ (s.startEdge t).tx = s.tx
      ∧ (s.startEdge t).service = s.service := by
  dsimp only [State.startEdge]
  repeat' split
  all_goals simp

@[simp] theorem State.rowFalls_keeps (s : State) (t : Nat) :
    (s.rowFalls t).pending = s.pending ∧ (s.rowFalls t).clock = s.clock ∧ (s.rowFalls t).running = s.running
      ∧ (s.rowFalls t).pins = s.pins ∧ (s.rowFalls t).dim = s.dim ∧ (s.rowFalls t).startUp = s.startUp
      ∧ (s.rowFalls t).sampler = s.sampler ∧ (s.rowFalls t).rows = s.rows
      ∧ (s.rowFalls t).levelling = s.levelling ∧ (s.rowFalls t).fronts = s.fronts
      ∧ (s.rowFalls t).ranks = s.ranks ∧ (s.rowFalls t).rampClock = s.rampClock ∧ (s.rowFalls t).occ = s.occ
      ∧ (s.rowFalls t).switch = s.switch ∧ (s.rowFalls t).tx = s.tx ∧ (s.rowFalls t).service = s.service := by
  dsimp only [State.rowFalls]
  repeat' split
  all_goals simp

@[simp] theorem State.rowRises_keeps (s : State) (t : Nat) :
    (s.rowRises t).pending = s.pending ∧ (s.rowRises t).clock = s.clock ∧ (s.rowRises t).running = s.running
      ∧ (s.rowRises t).pins = s.pins ∧ (s.rowRises t).dim = s.dim ∧ (s.rowRises t).startUp = s.startUp
      ∧ (s.rowRises t).conditions = s.conditions ∧ (s.rowRises t).sampler = s.sampler
      ∧ (s.rowRises t).rows = s.rows ∧ (s.rowRises t).levelling = s.levelling
      ∧ (s.rowRises t).fronts = s.fronts ∧ (s.rowRises t).ranks = s.ranks
      ∧ (s.rowRises t).rampClock = s.rampClock ∧ (s.rowRises t).occ = s.occ
      ∧ (s.rowRises t).switch = s.switch ∧ (s.rowRises t).rx = s.rx ∧ (s.rowRises t).tx = s.tx
      ∧ (s.rowRises t).service = s.service := by
  dsimp only [State.rowRises]
  repeat' split
  all_goals simp

@[simp] theorem State.rowBecomes_keeps (s : State) (t : Nat) (b : Bool) :
    (s.rowBecomes t b).pending = s.pending ∧ (s.rowBecomes t b).clock = s.clock
      ∧ (s.rowBecomes t b).running = s.running ∧ (s.rowBecomes t b).pins = s.pins
      ∧ (s.rowBecomes t b).dim = s.dim ∧ (s.rowBecomes t b).startUp = s.startUp
      ∧ (s.rowBecomes t b).sampler = s.sampler ∧ (s.rowBecomes t b).rows = s.rows
      ∧ (s.rowBecomes t b).levelling = s.levelling ∧ (s.rowBecomes t b).fronts = s.fronts
      ∧ (s.rowBecomes t b).ranks = s.ranks ∧ (s.rowBecomes t b).rampClock = s.rampClock
      ∧ (s.rowBecomes t b).occ = s.occ ∧ (s.rowBecomes t b).switch = s.switch ∧ (s.rowBecomes t b).tx = s.tx
      ∧ (s.rowBecomes t b).service = s.service := by
  dsimp only [State.rowBecomes]
  repeat' split
  all_goals simp

@[simp] theorem State.peersPull_keeps (s : State) (b : Bool) :
    (s.peersPull b).pending = s.pending ∧ (s.peersPull b).clock = s.clock
      ∧ (s.peersPull b).running = s.running ∧ (s.peersPull b).pins = s.pins ∧ (s.peersPull b).dim = s.dim
      ∧ (s.peersPull b).startUp = s.startUp ∧ (s.peersPull b).sampler = s.sampler
      ∧ (s.peersPull b).rows = s.rows ∧ (s.peersPull b).levelling = s.levelling
      ∧ (s.peersPull b).fronts = s.fronts ∧ (s.peersPull b).ranks = s.ranks
      ∧ (s.peersPull b).rampClock = s.rampClock ∧ (s.peersPull b).occ = s.occ
      ∧ (s.peersPull b).switch = s.switch ∧ (s.peersPull b).tx = s.tx ∧ (s.peersPull b).service = s.service := by
  dsimp only [State.peersPull]
  all_goals simp

@[simp] theorem State.compareBit_keeps (s : State) (f : Flight) :
    (s.compareBit f).pending = s.pending ∧ (s.compareBit f).clock = s.clock
      ∧ (s.compareBit f).running = s.running ∧ (s.compareBit f).pins = s.pins
      ∧ (s.compareBit f).dim = s.dim ∧ (s.compareBit f).startUp = s.startUp
      ∧ (s.compareBit f).conditions = s.conditions ∧ (s.compareBit f).sampler = s.sampler
      ∧ (s.compareBit f).rows = s.rows ∧ (s.compareBit f).levelling = s.levelling
      ∧ (s.compareBit f).fronts = s.fronts ∧ (s.compareBit f).ranks = s.ranks
      ∧ (s.compareBit f).rampClock = s.rampClock ∧ (s.compareBit f).occ = s.occ
      ∧ (s.compareBit f).switch = s.switch ∧ (s.compareBit f).line = s.line
      ∧ (s.compareBit f).service = s.service := by
  dsimp only [State.compareBit]
  repeat' split
  all_goals simp

@[simp] theorem State.readBackTo_keeps (s : State) (t : Nat) :
    (s.readBackTo t).pending = s.pending ∧ (s.readBackTo t).clock = s.clock
      ∧ (s.readBackTo t).running = s.running ∧ (s.readBackTo t).pins = s.pins
      ∧ (s.readBackTo t).dim = s.dim ∧ (s.readBackTo t).startUp = s.startUp
      ∧ (s.readBackTo t).conditions = s.conditions ∧ (s.readBackTo t).sampler = s.sampler
      ∧ (s.readBackTo t).rows = s.rows ∧ (s.readBackTo t).levelling = s.levelling
      ∧ (s.readBackTo t).fronts = s.fronts ∧ (s.readBackTo t).ranks = s.ranks
      ∧ (s.readBackTo t).rampClock = s.rampClock ∧ (s.readBackTo t).occ = s.occ
      ∧ (s.readBackTo t).switch = s.switch ∧ (s.readBackTo t).line = s.line
      ∧ (s.readBackTo t).service = s.service := by
  dsimp only [State.readBackTo]
  repeat' split
  all_goals simp

@[simp] theorem State.driveBit_keeps (s : State) (f : Flight) :
    (s.driveBit f).pending = s.pending ∧ (s.driveBit f).clock = s.clock ∧ (s.driveBit f).running = s.running
      ∧ (s.driveBit f).pins = s.pins ∧ (s.driveBit f).dim = s.dim ∧ (s.driveBit f).startUp = s.startUp
      ∧ (s.driveBit f).sampler = s.sampler ∧ (s.driveBit f).rows = s.rows
      ∧ (s.driveBit f).levelling = s.levelling ∧ (s.driveBit f).fronts = s.fronts
      ∧ (s.driveBit f).ranks = s.ranks ∧ (s.driveBit f).rampClock = s.rampClock ∧ (s.driveBit f).occ = s.occ
      ∧ (s.driveBit f).switch = s.switch ∧ (s.driveBit f).service = s.service := by
  dsimp only [State.driveBit]
  all_goals simp

@[simp] theorem State.driveBits_keeps (n : Nat) (s : State) :
    (State.driveBits n s).pending = s.pending ∧ (State.driveBits n s).clock = s.clock
      ∧ (State.driveBits n s).running = s.running ∧ (State.driveBits n s).pins = s.pins
      ∧ (State.driveBits n s).dim = s.dim ∧ (State.driveBits n s).startUp = s.startUp
      ∧ (State.driveBits n s).sampler = s.sampler ∧ (State.driveBits n s).rows = s.rows
      ∧ (State.driveBits n s).levelling = s.levelling ∧ (State.driveBits n s).fronts = s.fronts
      ∧ (State.driveBits n s).ranks = s.ranks ∧ (State.driveBits n s).rampClock = s.rampClock
      ∧ (State.driveBits n s).occ = s.occ ∧ (State.driveBits n s).switch = s.switch
      ∧ (State.driveBits n s).service = s.service := by
  induction n generalizing s with
  | zero => simp [State.driveBits]
  | succ n ih =>
    dsimp only [State.driveBits]
    repeat' split
    all_goals simp [ih]

@[simp] theorem State.driveTo_keeps (s : State) (t : Nat) :
    (s.driveTo t).pending = s.pending ∧ (s.driveTo t).clock = s.clock ∧ (s.driveTo t).running = s.running
      ∧ (s.driveTo t).pins = s.pins ∧ (s.driveTo t).dim = s.dim ∧ (s.driveTo t).startUp = s.startUp
      ∧ (s.driveTo t).sampler = s.sampler ∧ (s.driveTo t).rows = s.rows
      ∧ (s.driveTo t).levelling = s.levelling ∧ (s.driveTo t).fronts = s.fronts
      ∧ (s.driveTo t).ranks = s.ranks ∧ (s.driveTo t).rampClock = s.rampClock ∧ (s.driveTo t).occ = s.occ
      ∧ (s.driveTo t).switch = s.switch ∧ (s.driveTo t).service = s.service := by
  dsimp only [State.driveTo]
  repeat' split
  all_goals simp

@[simp] theorem State.driveNow_keeps (s : State) :
    s.driveNow.pending = s.pending ∧ s.driveNow.clock = s.clock ∧ s.driveNow.running = s.running
      ∧ s.driveNow.pins = s.pins ∧ s.driveNow.dim = s.dim ∧ s.driveNow.startUp = s.startUp
      ∧ s.driveNow.sampler = s.sampler ∧ s.driveNow.rows = s.rows ∧ s.driveNow.levelling = s.levelling
      ∧ s.driveNow.fronts = s.fronts ∧ s.driveNow.ranks = s.ranks ∧ s.driveNow.rampClock = s.rampClock
      ∧ s.driveNow.occ = s.occ ∧ s.driveNow.switch = s.switch ∧ s.driveNow.service = s.service := by
  dsimp only [State.driveNow]
  all_goals simp

@[simp] theorem State.releaseRow_keeps (s : State) :
    s.releaseRow.pending = s.pending ∧ s.releaseRow.clock = s.clock ∧ s.releaseRow.running = s.running
      ∧ s.releaseRow.pins = s.pins ∧ s.releaseRow.dim = s.dim ∧ s.releaseRow.startUp = s.startUp
      ∧ s.releaseRow.sampler = s.sampler ∧ s.releaseRow.rows = s.rows ∧ s.releaseRow.levelling = s.levelling
      ∧ s.releaseRow.fronts = s.fronts ∧ s.releaseRow.ranks = s.ranks ∧ s.releaseRow.rampClock = s.rampClock
      ∧ s.releaseRow.occ = s.occ ∧ s.releaseRow.switch = s.switch ∧ s.releaseRow.service = s.service := by
  dsimp only [State.releaseRow]
  repeat' split
  all_goals simp

@[simp] theorem State.restartRecessive_keeps (s : State) :
    s.restartRecessive.pending = s.pending ∧ s.restartRecessive.clock = s.clock
      ∧ s.restartRecessive.running = s.running ∧ s.restartRecessive.pins = s.pins
      ∧ s.restartRecessive.dim = s.dim ∧ s.restartRecessive.startUp = s.startUp
      ∧ s.restartRecessive.conditions = s.conditions ∧ s.restartRecessive.sampler = s.sampler
      ∧ s.restartRecessive.rows = s.rows ∧ s.restartRecessive.levelling = s.levelling
      ∧ s.restartRecessive.fronts = s.fronts ∧ s.restartRecessive.ranks = s.ranks
      ∧ s.restartRecessive.rampClock = s.rampClock ∧ s.restartRecessive.occ = s.occ
      ∧ s.restartRecessive.switch = s.switch ∧ s.restartRecessive.rx = s.rx ∧ s.restartRecessive.tx = s.tx
      ∧ s.restartRecessive.service = s.service := by
  dsimp only [State.restartRecessive]
  repeat' split
  all_goals simp

/-! ## What the station drives -/

@[simp] theorem State.driveTo_none {s : State} (h : s.tx.flight = none) (t : Nat) : s.driveTo t = s := by
  simp [State.driveTo, h]

@[simp] theorem State.driveNow_none {s : State} (h : s.tx.flight = none) : s.driveNow = s := by
  simp [State.driveNow, h]

@[simp] theorem State.releaseRow_none {s : State} (h : s.tx.flight = none) : s.releaseRow = s := by
  simp [State.releaseRow, h]

@[simp] theorem State.drives_none {s : State} (h : s.tx.flight = none) : s.drives = false := by
  simp [State.drives, h]

theorem State.rowLow_none {s : State} (h : s.tx.flight = none) : s.rowLow = s.line.pulled := by
  simp [State.rowLow, h]

@[simp] theorem State.startEdge_pulled (s : State) (t : Nat) :
    (s.startEdge t).line.pulled = s.line.pulled := by simp

@[simp] theorem State.rowBecomes_pulled (s : State) (t : Nat) (b : Bool) :
    (s.rowBecomes t b).line.pulled = s.line.pulled := by
  dsimp only [State.rowBecomes, State.rowFalls, State.rowRises]
  repeat' split
  all_goals simp

/-- `t` is `s` with the frame `f` in flight driven and read back as far as `g` tells: the rest of the frame, of
the scheduler, and the other peers' pull stand. -/
abbrev State.Drove (s t : State) (f g : Flight) : Prop :=
  t.tx = { s.tx with flight := some g } ∧ t.line.pulled = s.line.pulled
    ∧ g = { f with driven := g.driven, read := g.read, wrong := g.wrong }

/-- Reading the last bit back drives none; past its sample point a sound frame has it read right, or wrong. -/
theorem State.readBackTo_flight {s : State} {f : Flight} (h : s.tx.flight = some f) (t : Nat) :
    ∃ g, s.Drove (s.readBackTo t) f g ∧ g.driven = f.driven ∧ (f.wrong = true → g.wrong = true)
      ∧ (s.line.pulled = false → g.wrong = f.wrong)
      ∧ (f.Sound → g.Sound ∧ (f.sampleAt (f.driven - 1) ≤ t → g.wrong = true ∨ g.read = g.driven)) := by
  unfold State.readBackTo
  simp only [h]
  split
  case isFalse ha =>
    refine ⟨f, ⟨by simp [← h], rfl, rfl⟩, rfl, id, fun _ => rfl, fun hs => ⟨hs, fun ht => ?_⟩⟩
    simp only [Flight.awaits, ht, decide_true, Bool.and_true, Bool.and_eq_true, Bool.not_eq_true',
      decide_eq_true_eq, not_and] at ha
    have := hs.1
    cases hw : f.wrong
    · exact .inr (Nat.le_antisymm hs.1 (Nat.not_lt.mp (ha hw)))
    · exact .inl rfl
  case isTrue ha =>
    simp only [Flight.awaits, Bool.and_eq_true, Bool.not_eq_true', decide_eq_true_eq] at ha
    obtain ⟨⟨hw, hr⟩, -⟩ := ha
    unfold State.compareBit
    split
    case isTrue hc =>
      refine ⟨{ f with read := f.driven }, ⟨by simp, by simp, rfl⟩, rfl, id, fun _ => rfl, ?_⟩
      rintro ⟨h1, h2, h3, h4⟩
      exact ⟨⟨Nat.le_refl _, by simp, h3, by simp [hw]⟩, fun _ => .inr rfl⟩
    case isFalse hc =>
      refine ⟨{ f with wrong := true }, ⟨by simp, by simp, rfl⟩, rfl, fun _ => rfl, fun hp => absurd (by simp [State.rowLow, h, hp]) hc, ?_⟩
      rintro ⟨h1, h2, h3, h4⟩
      have hk : f.driven = f.read + 1 := by omega
      refine ⟨⟨h1, h2, h3, fun _ => ⟨hk, ?_⟩⟩, fun _ => .inl rfl⟩
      cases hb : f.bit f.read
      · exact absurd (by simp [State.rowLow, h, Flight.low, hk, hw, hb]) hc
      · simpa [Flight.bit] using hb

/-- Bit after bit is driven until one reads back wrong, which none does while no other peer pulls; and a sound
frame stays sound. -/
theorem State.driveBits_flight (n : Nat) {s : State} {f : Flight} (h : s.tx.flight = some f) :
    ∃ g, s.Drove (State.driveBits n s) f g ∧ f.driven ≤ g.driven ∧ g.driven ≤ f.driven + n
      ∧ (g.wrong = false → g.driven = f.driven + n) ∧ (s.line.pulled = false → g.wrong = f.wrong)
      ∧ (f.driven + n ≤ 11 * f.chars.length → f.Sound → g.Sound) := by
  induction n generalizing s f with
  | zero => exact ⟨f, ⟨by simp [State.driveBits, ← h], rfl, rfl⟩, by simp⟩
  | succ n ih =>
    obtain ⟨g, ⟨htx, hp, hg⟩, hd, -, hu, hs⟩ := State.readBackTo_flight h (f.start + bits f.driven)
    have hgf : (s.readBackTo (f.start + bits f.driven)).tx.flight = some g := by rw [htx]
    simp only [State.driveBits, h, hgf]
    split
    case isTrue hw =>
      exact ⟨g, ⟨htx, hp, hg⟩, by omega, by omega, by simp [hw], hu, fun _ hf => (hs hf).1⟩
    case isFalse hw =>
      have hb : ((s.readBackTo (f.start + bits f.driven)).driveBit g).tx.flight
          = some { g with driven := g.driven + 1 } := by simp [State.driveBit]
      obtain ⟨e, ⟨h1, h2, h3⟩, h4, h5, h6, hv, h7⟩ := ih hb
      refine ⟨e, ⟨?_, ?_, ?_⟩, ?_, ?_, ?_, ?_, ?_⟩
      · rw [h1]; simp [State.driveBit, htx]
      · rw [h2]; simp [State.driveBit]
      · rw [h3, hg]
      · simp at h4; omega
      · simp at h5; omega
      · intro hn; have := h6 hn; simp at this; omega
      · intro hn; rw [hv (by simp [State.driveBit, hn]), ← hu hn]
      · intro hl hf
        obtain ⟨⟨k1, k2, k3, k4⟩, k5⟩ := hs hf
        have hc : g.chars = f.chars := by rw [hg]
        have hr : g.read = g.driven := by
          rcases Nat.eq_zero_or_pos f.driven with h0 | h0
          · omega
          · refine (k5 ?_).resolve_left hw
            simp only [Flight.sampleAt, bits]
            omega
        refine h7 (by rw [hc]; dsimp only; omega) ⟨?_, ?_, ?_, fun he => absurd he hw⟩
        · dsimp only; omega
        · dsimp only; omega
        · dsimp only; rw [hc]; omega

theorem Flight.begunBy_le (f : Flight) (t : Nat) : f.begunBy t ≤ 11 * f.chars.length := by
  unfold Flight.begunBy
  split <;> omega

/-- Driving up to an instant puts every bit begun by then on ROW unless one reads back wrong before, which
none does while no other peer pulls; and a sound frame stays sound. -/
theorem State.driveTo_flight {s : State} {f : Flight} (h : s.tx.flight = some f) (t : Nat) :
    ∃ g, s.Drove (s.driveTo t) f g ∧ f.driven ≤ g.driven ∧ g.driven ≤ max f.driven (f.begunBy t)
      ∧ (g.wrong = false → g.driven = max f.driven (f.begunBy t))
      ∧ (s.line.pulled = false → g.wrong = f.wrong) ∧ (f.Sound → g.Sound) := by
  obtain ⟨g, ⟨h1, h2, h3⟩, h4, h5, h6, hv, h7⟩ := State.driveBits_flight (f.begunBy t - f.driven) h
  have hgf : (State.driveBits (f.begunBy t - f.driven) s).tx.flight = some g := by rw [h1]
  obtain ⟨e, ⟨k1, k2, k3⟩, k4, kw, ku, k5⟩ := State.readBackTo_flight hgf t
  have hm : f.driven + (f.begunBy t - f.driven) = max f.driven (f.begunBy t) := by omega
  rw [hm] at h5 h6 h7
  refine ⟨e, ⟨?_, ?_, ?_⟩, by omega, by omega, ?_, ?_, ?_⟩
  · simp only [State.driveTo, h, k1, h1]
  · simp only [State.driveTo, h, k2, h2]
  · rw [k3, h3]
  · intro hw
    rw [k4]
    refine h6 (Bool.eq_false_iff.mpr fun hg => ?_)
    simp [kw hg] at hw
  · intro hn; rw [ku (by rw [h2, hn]), hv hn]
  · intro hf
    refine (k5 (h7 ?_ hf)).1
    have := f.begunBy_le t
    have := hf.2.2.1
    omega

end Sys2Proof.Machine
end

