-- ==== Sys2Proof/Laws/Queue.lean ====
section
/-! SUPPORT. The transmit queue, results, changes of mode and the beginning of a restart: what each
shared operation leaves as it was, and what the small ones do. -/

namespace Sys2Proof.Machine

/-! ## The queue -/

@[simp] theorem insertEntry_length (q : List QueueEntry) (e : QueueEntry) :
    (insertEntry q e).length = q.length + 1 := by
  unfold insertEntry
  induction q with
  | nil => rfl
  | cons x xs ih =>
    by_cases h : x.kind.frameClass ≤ e.kind.frameClass
    · have h' : ¬ e.kind.frameClass < x.kind.frameClass := Nat.not_lt.mpr h
      simp [h, h'] at ih ⊢; omega
    · have h' : e.kind.frameClass < x.kind.frameClass := Nat.lt_of_not_le h
      simp [h, h'] at ih ⊢; omega

@[simp] theorem mem_insertEntry {q : List QueueEntry} {e x : QueueEntry} :
    x ∈ insertEntry q e ↔ x = e ∨ x ∈ q := by
  by_cases h : x.kind.frameClass ≤ e.kind.frameClass
  · have h' : ¬ e.kind.frameClass < x.kind.frameClass := Nat.not_lt.mpr h
    simp [insertEntry, h, h', or_comm]
  · have h' : e.kind.frameClass < x.kind.frameClass := Nat.lt_of_not_le h
    simp [insertEntry, h, h']

theorem insertEntry_ne_nil (q : List QueueEntry) (e : QueueEntry) : insertEntry q e ≠ [] := by
  simp [insertEntry]

/-- How many entries of a sort the queue holds after one has joined. -/
theorem insertEntry_count (q : List QueueEntry) (e : QueueEntry) (p : QueueEntry → Bool) :
    ((insertEntry q e).filter p).length = (q.filter p).length + (if p e then 1 else 0) := by
  have key : ∀ q : List QueueEntry,
      ((q.filter fun x => x.kind.frameClass ≤ e.kind.frameClass).filter p).length
        + ((q.filter fun x => e.kind.frameClass < x.kind.frameClass).filter p).length
        = (q.filter p).length := by
    intro q
    induction q with
    | nil => rfl
    | cons x xs ih =>
      by_cases h : x.kind.frameClass ≤ e.kind.frameClass
      · have h' : ¬ e.kind.frameClass < x.kind.frameClass := Nat.not_lt.mpr h
        cases hp : p x <;> simp [h, h', hp] at ih ⊢ <;> omega
      · have h' : e.kind.frameClass < x.kind.frameClass := Nat.lt_of_not_le h
        cases hp : p x <;> simp [h, h', hp] at ih ⊢ <;> omega
  have := key q
  unfold insertEntry
  cases hp : p e <;> simp [hp] at this ⊢ <;> omega

@[simp] theorem State.queueOpen_shut {s : State} (h : s.mode ≠ .active ∨ s.tx.parting = true) :
    s.queueOpen = false := by
  unfold State.queueOpen
  rcases h with h | h
  · cases hm : s.mode <;> simp_all
  · simp [h]

theorem Tx.holdsOver_iff {t : Tx} {m : QueueEntry} :
    t.holdsOver m = true ↔ m.inFlight = true ∧ ∀ f ∈ t.flight, f.asFull = false := by
  cases h : t.flight <;> simp [Tx.holdsOver, h]

/-! ## What each leaves as it was -/

@[simp] theorem State.join_keeps (s : State) (k : EntryKind) :
    (s.join k).pending = s.pending ∧ (s.join k).clock = s.clock ∧ (s.join k).running = s.running
      ∧ (s.join k).pins = s.pins ∧ (s.join k).dim = s.dim ∧ (s.join k).startUp = s.startUp
      ∧ (s.join k).conditions = s.conditions ∧ (s.join k).sampler = s.sampler ∧ (s.join k).rows = s.rows
      ∧ (s.join k).levelling = s.levelling ∧ (s.join k).fronts = s.fronts ∧ (s.join k).ranks = s.ranks
      ∧ (s.join k).rampClock = s.rampClock ∧ (s.join k).occ = s.occ ∧ (s.join k).switch = s.switch
      ∧ (s.join k).line = s.line ∧ (s.join k).rx = s.rx ∧ (s.join k).service = s.service := by
  dsimp only [State.join]
  all_goals simp

@[simp] theorem State.fullDue_keeps (s : State) :
    s.fullDue.pending = s.pending ∧ s.fullDue.clock = s.clock ∧ s.fullDue.running = s.running
      ∧ s.fullDue.pins = s.pins ∧ s.fullDue.dim = s.dim ∧ s.fullDue.startUp = s.startUp
      ∧ s.fullDue.conditions = s.conditions ∧ s.fullDue.sampler = s.sampler ∧ s.fullDue.rows = s.rows
      ∧ s.fullDue.levelling = s.levelling ∧ s.fullDue.fronts = s.fronts ∧ s.fullDue.ranks = s.ranks
      ∧ s.fullDue.rampClock = s.rampClock ∧ s.fullDue.occ = s.occ ∧ s.fullDue.switch = s.switch
      ∧ s.fullDue.line = s.line ∧ s.fullDue.rx = s.rx ∧ s.fullDue.service = s.service := by
  dsimp only [State.fullDue]
  repeat' split
  all_goals simp

@[simp] theorem State.deltaDue_keeps (s : State) :
    s.deltaDue.pending = s.pending ∧ s.deltaDue.clock = s.clock ∧ s.deltaDue.running = s.running
      ∧ s.deltaDue.pins = s.pins ∧ s.deltaDue.dim = s.dim ∧ s.deltaDue.startUp = s.startUp
      ∧ s.deltaDue.conditions = s.conditions ∧ s.deltaDue.sampler = s.sampler ∧ s.deltaDue.rows = s.rows
      ∧ s.deltaDue.levelling = s.levelling ∧ s.deltaDue.fronts = s.fronts ∧ s.deltaDue.ranks = s.ranks
      ∧ s.deltaDue.rampClock = s.rampClock ∧ s.deltaDue.occ = s.occ ∧ s.deltaDue.switch = s.switch
      ∧ s.deltaDue.line = s.line ∧ s.deltaDue.rx = s.rx ∧ s.deltaDue.service = s.service := by
  dsimp only [State.deltaDue]
  repeat' split
  all_goals simp

@[simp] theorem State.offerNotice_keeps (s : State) (o n : Nat) :
    (s.offerNotice o n).pending = s.pending ∧ (s.offerNotice o n).clock = s.clock
      ∧ (s.offerNotice o n).running = s.running ∧ (s.offerNotice o n).pins = s.pins
      ∧ (s.offerNotice o n).dim = s.dim ∧ (s.offerNotice o n).startUp = s.startUp
      ∧ (s.offerNotice o n).conditions = s.conditions ∧ (s.offerNotice o n).sampler = s.sampler
      ∧ (s.offerNotice o n).rows = s.rows ∧ (s.offerNotice o n).levelling = s.levelling
      ∧ (s.offerNotice o n).fronts = s.fronts ∧ (s.offerNotice o n).ranks = s.ranks
      ∧ (s.offerNotice o n).rampClock = s.rampClock ∧ (s.offerNotice o n).occ = s.occ
      ∧ (s.offerNotice o n).switch = s.switch ∧ (s.offerNotice o n).line = s.line
      ∧ (s.offerNotice o n).rx = s.rx ∧ (s.offerNotice o n).service = s.service := by
  dsimp only [State.offerNotice]
  repeat' split
  all_goals simp

@[simp] theorem State.stopDriving_keeps (s : State) :
    s.stopDriving.pending = s.pending ∧ s.stopDriving.clock = s.clock ∧ s.stopDriving.running = s.running
      ∧ s.stopDriving.pins = s.pins ∧ s.stopDriving.dim = s.dim ∧ s.stopDriving.startUp = s.startUp
      ∧ s.stopDriving.sampler = s.sampler ∧ s.stopDriving.rows = s.rows
      ∧ s.stopDriving.levelling = s.levelling ∧ s.stopDriving.fronts = s.fronts
      ∧ s.stopDriving.ranks = s.ranks ∧ s.stopDriving.rampClock = s.rampClock ∧ s.stopDriving.occ = s.occ
      ∧ s.stopDriving.switch = s.switch ∧ s.stopDriving.service = s.service := by
  dsimp only [State.stopDriving]
  all_goals simp

@[simp] theorem State.emptyQueue_keeps (s : State) :
    s.emptyQueue.pending = s.pending ∧ s.emptyQueue.clock = s.clock ∧ s.emptyQueue.running = s.running
      ∧ s.emptyQueue.pins = s.pins ∧ s.emptyQueue.dim = s.dim ∧ s.emptyQueue.startUp = s.startUp
      ∧ s.emptyQueue.sampler = s.sampler ∧ s.emptyQueue.rows = s.rows ∧ s.emptyQueue.levelling = s.levelling
      ∧ s.emptyQueue.fronts = s.fronts ∧ s.emptyQueue.ranks = s.ranks ∧ s.emptyQueue.rampClock = s.rampClock
      ∧ s.emptyQueue.occ = s.occ ∧ s.emptyQueue.switch = s.switch ∧ s.emptyQueue.service = s.service := by
  dsimp only [State.emptyQueue]
  all_goals simp

@[simp] theorem State.deltaCheck_keeps (s : State) :
    s.deltaCheck.pending = s.pending ∧ s.deltaCheck.clock = s.clock ∧ s.deltaCheck.running = s.running
      ∧ s.deltaCheck.pins = s.pins ∧ s.deltaCheck.dim = s.dim ∧ s.deltaCheck.startUp = s.startUp
      ∧ s.deltaCheck.conditions = s.conditions ∧ s.deltaCheck.sampler = s.sampler
      ∧ s.deltaCheck.rows = s.rows ∧ s.deltaCheck.levelling = s.levelling ∧ s.deltaCheck.fronts = s.fronts
      ∧ s.deltaCheck.ranks = s.ranks ∧ s.deltaCheck.rampClock = s.rampClock ∧ s.deltaCheck.occ = s.occ
      ∧ s.deltaCheck.switch = s.switch ∧ s.deltaCheck.line = s.line ∧ s.deltaCheck.rx = s.rx
      ∧ s.deltaCheck.service = s.service := by
  dsimp only [State.deltaCheck]
  repeat' split
  all_goals simp

@[simp] theorem State.endDefer_keeps (s : State) :
    s.endDefer.pending = s.pending ∧ s.endDefer.clock = s.clock ∧ s.endDefer.running = s.running
      ∧ s.endDefer.pins = s.pins ∧ s.endDefer.dim = s.dim ∧ s.endDefer.startUp = s.startUp
      ∧ s.endDefer.conditions = s.conditions ∧ s.endDefer.sampler = s.sampler ∧ s.endDefer.rows = s.rows
      ∧ s.endDefer.levelling = s.levelling ∧ s.endDefer.fronts = s.fronts ∧ s.endDefer.ranks = s.ranks
      ∧ s.endDefer.rampClock = s.rampClock ∧ s.endDefer.occ = s.occ ∧ s.endDefer.switch = s.switch
      ∧ s.endDefer.line = s.line ∧ s.endDefer.rx = s.rx ∧ s.endDefer.service = s.service := by
  dsimp only [State.endDefer]
  repeat' split
  all_goals simp

@[simp] theorem State.readStraps_keeps (s : State) :
    s.readStraps.pending = s.pending ∧ s.readStraps.clock = s.clock ∧ s.readStraps.running = s.running
      ∧ s.readStraps.pins = s.pins ∧ s.readStraps.dim = s.dim ∧ s.readStraps.sampler = s.sampler
      ∧ s.readStraps.rows = s.rows ∧ s.readStraps.levelling = s.levelling ∧ s.readStraps.fronts = s.fronts
      ∧ s.readStraps.ranks = s.ranks ∧ s.readStraps.rampClock = s.rampClock ∧ s.readStraps.occ = s.occ
      ∧ s.readStraps.switch = s.switch ∧ s.readStraps.line = s.line ∧ s.readStraps.rx = s.rx
      ∧ s.readStraps.tx = s.tx ∧ s.readStraps.service = s.service := by
  dsimp only [State.readStraps]
  all_goals simp

@[simp] theorem State.enterByTests_keeps (s : State) :
    s.enterByTests.pending = s.pending ∧ s.enterByTests.clock = s.clock ∧ s.enterByTests.running = s.running
      ∧ s.enterByTests.pins = s.pins ∧ s.enterByTests.dim = s.dim ∧ s.enterByTests.conditions = s.conditions
      ∧ s.enterByTests.sampler = s.sampler ∧ s.enterByTests.rows = s.rows
      ∧ s.enterByTests.levelling = s.levelling ∧ s.enterByTests.fronts = s.fronts
      ∧ s.enterByTests.ranks = s.ranks ∧ s.enterByTests.rampClock = s.rampClock ∧ s.enterByTests.occ = s.occ
      ∧ s.enterByTests.switch = s.switch ∧ s.enterByTests.line = s.line ∧ s.enterByTests.rx = s.rx
      ∧ s.enterByTests.tx = s.tx ∧ s.enterByTests.service = s.service := by
  dsimp only [State.enterByTests]
  repeat' split
  all_goals simp

@[simp] theorem State.endConfig_keeps (s : State) (i : Image) (c : Cause) :
    (s.endConfig i c).pending = s.pending ∧ (s.endConfig i c).clock = s.clock
      ∧ (s.endConfig i c).running = s.running ∧ (s.endConfig i c).pins = s.pins
      ∧ (s.endConfig i c).dim = s.dim ∧ (s.endConfig i c).sampler = s.sampler
      ∧ (s.endConfig i c).rows = s.rows ∧ (s.endConfig i c).fronts = s.fronts
      ∧ (s.endConfig i c).rampClock = s.rampClock ∧ (s.endConfig i c).line = s.line
      ∧ (s.endConfig i c).rx = s.rx ∧ (s.endConfig i c).tx = s.tx ∧ (s.endConfig i c).service = s.service := by
  dsimp only [State.endConfig]
  repeat' split
  all_goals simp

@[simp] theorem State.cancelOverride_keeps (s : State) :
    s.cancelOverride.pending = s.pending ∧ s.cancelOverride.clock = s.clock
      ∧ s.cancelOverride.running = s.running ∧ s.cancelOverride.pins = s.pins ∧ s.cancelOverride.dim = s.dim
      ∧ s.cancelOverride.startUp = s.startUp ∧ s.cancelOverride.conditions = s.conditions
      ∧ s.cancelOverride.sampler = s.sampler ∧ s.cancelOverride.rows = s.rows
      ∧ s.cancelOverride.levelling = s.levelling ∧ s.cancelOverride.fronts = s.fronts
      ∧ s.cancelOverride.rampClock = s.rampClock ∧ s.cancelOverride.occ = s.occ
      ∧ s.cancelOverride.line = s.line ∧ s.cancelOverride.rx = s.rx ∧ s.cancelOverride.tx = s.tx
      ∧ s.cancelOverride.service = s.service := by
  dsimp only [State.cancelOverride]
  repeat' split
  all_goals simp

@[simp] theorem State.restartBegin_keeps (s : State) :
    s.restartBegin.pending = s.pending ∧ s.restartBegin.clock = s.clock ∧ s.restartBegin.running = s.running
      ∧ s.restartBegin.pins = s.pins ∧ s.restartBegin.dim = s.dim ∧ s.restartBegin.sampler = s.sampler
      ∧ s.restartBegin.rampClock = s.rampClock ∧ s.restartBegin.occ = s.occ := by
  dsimp only [State.restartBegin]
  all_goals simp

@[simp] theorem State.resultGone_keeps (s : State) :
    s.resultGone.pending = s.pending ∧ s.resultGone.clock = s.clock ∧ s.resultGone.running = s.running
      ∧ s.resultGone.pins = s.pins ∧ s.resultGone.dim = s.dim ∧ s.resultGone.sampler = s.sampler
      ∧ s.resultGone.rampClock = s.rampClock ∧ s.resultGone.occ = s.occ := by
  dsimp only [State.resultGone]
  repeat' split
  all_goals simp

@[simp] theorem State.offerResult_keeps (s : State) (p : Pending) (a : Answer) :
    (s.offerResult p a).pending = s.pending ∧ (s.offerResult p a).clock = s.clock
      ∧ (s.offerResult p a).running = s.running ∧ (s.offerResult p a).pins = s.pins
      ∧ (s.offerResult p a).dim = s.dim ∧ (s.offerResult p a).sampler = s.sampler
      ∧ (s.offerResult p a).rampClock = s.rampClock ∧ (s.offerResult p a).occ = s.occ := by
  dsimp only [State.offerResult]
  repeat' split
  all_goals simp

@[simp] theorem State.offerStepResult_keeps (s : State) :
    s.offerStepResult.pending = s.pending ∧ s.offerStepResult.clock = s.clock
      ∧ s.offerStepResult.running = s.running ∧ s.offerStepResult.pins = s.pins
      ∧ s.offerStepResult.dim = s.dim ∧ s.offerStepResult.sampler = s.sampler
      ∧ s.offerStepResult.rampClock = s.rampClock ∧ s.offerStepResult.occ = s.occ := by
  dsimp only [State.offerStepResult]
  repeat' split
  all_goals simp

@[simp] theorem State.discardQueue_keeps (s : State) :
    s.discardQueue.pending = s.pending ∧ s.discardQueue.clock = s.clock ∧ s.discardQueue.running = s.running
      ∧ s.discardQueue.pins = s.pins ∧ s.discardQueue.dim = s.dim ∧ s.discardQueue.sampler = s.sampler
      ∧ s.discardQueue.rampClock = s.rampClock ∧ s.discardQueue.occ = s.occ := by
  dsimp only [State.discardQueue]
  repeat' split
  all_goals simp

@[simp] theorem State.leaveActive_keeps (s : State) (m : Mode) :
    (s.leaveActive m).pending = s.pending ∧ (s.leaveActive m).clock = s.clock
      ∧ (s.leaveActive m).running = s.running ∧ (s.leaveActive m).pins = s.pins
      ∧ (s.leaveActive m).dim = s.dim ∧ (s.leaveActive m).sampler = s.sampler
      ∧ (s.leaveActive m).rampClock = s.rampClock ∧ (s.leaveActive m).occ = s.occ := by
  dsimp only [State.leaveActive]
  all_goals simp

@[simp] theorem State.leaveListen_keeps (s : State) (m : Mode) :
    (s.leaveListen m).pending = s.pending ∧ (s.leaveListen m).clock = s.clock
      ∧ (s.leaveListen m).running = s.running ∧ (s.leaveListen m).pins = s.pins
      ∧ (s.leaveListen m).dim = s.dim ∧ (s.leaveListen m).conditions = s.conditions
      ∧ (s.leaveListen m).sampler = s.sampler ∧ (s.leaveListen m).rows = s.rows
      ∧ (s.leaveListen m).levelling = s.levelling ∧ (s.leaveListen m).fronts = s.fronts
      ∧ (s.leaveListen m).ranks = s.ranks ∧ (s.leaveListen m).rampClock = s.rampClock
      ∧ (s.leaveListen m).occ = s.occ ∧ (s.leaveListen m).switch = s.switch ∧ (s.leaveListen m).line = s.line
      ∧ (s.leaveListen m).rx = s.rx ∧ (s.leaveListen m).tx = s.tx ∧ (s.leaveListen m).service = s.service := by
  dsimp only [State.leaveListen]
  all_goals simp

@[simp] theorem State.onStuck_keeps (s : State) :
    s.onStuck.pending = s.pending ∧ s.onStuck.clock = s.clock ∧ s.onStuck.running = s.running
      ∧ s.onStuck.pins = s.pins ∧ s.onStuck.dim = s.dim ∧ s.onStuck.sampler = s.sampler
      ∧ s.onStuck.rampClock = s.rampClock ∧ s.onStuck.occ = s.occ := by
  dsimp only [State.onStuck]
  repeat' split
  all_goals simp

@[simp] theorem State.partingStart_keeps (s : State) :
    s.partingStart.pending = s.pending ∧ s.partingStart.clock = s.clock ∧ s.partingStart.running = s.running
      ∧ s.partingStart.pins = s.pins ∧ s.partingStart.dim = s.dim ∧ s.partingStart.sampler = s.sampler
      ∧ s.partingStart.rampClock = s.rampClock ∧ s.partingStart.occ = s.occ := by
  dsimp only [State.partingStart]
  repeat' split
  all_goals simp

@[simp] theorem State.duplicateFound_keeps (s : State) :
    s.duplicateFound.pending = s.pending ∧ s.duplicateFound.clock = s.clock
      ∧ s.duplicateFound.running = s.running ∧ s.duplicateFound.pins = s.pins ∧ s.duplicateFound.dim = s.dim
      ∧ s.duplicateFound.sampler = s.sampler ∧ s.duplicateFound.rampClock = s.rampClock
      ∧ s.duplicateFound.occ = s.occ := by
  dsimp only [State.duplicateFound]
  repeat' split
  all_goals simp

@[simp] theorem State.enterActive_keeps (s : State) :
    s.enterActive.pending = s.pending ∧ s.enterActive.clock = s.clock ∧ s.enterActive.running = s.running
      ∧ s.enterActive.pins = s.pins ∧ s.enterActive.dim = s.dim ∧ s.enterActive.conditions = s.conditions
      ∧ s.enterActive.sampler = s.sampler ∧ s.enterActive.rows = s.rows
      ∧ s.enterActive.levelling = s.levelling ∧ s.enterActive.fronts = s.fronts
      ∧ s.enterActive.ranks = s.ranks ∧ s.enterActive.rampClock = s.rampClock ∧ s.enterActive.occ = s.occ
      ∧ s.enterActive.switch = s.switch ∧ s.enterActive.line = s.line ∧ s.enterActive.rx = s.rx
      ∧ s.enterActive.service = s.service := by
  dsimp only [State.enterActive]
  all_goals simp

/-- The moment of a bit read back wrong is the station driven on: only ROW, the receiver, the scheduler, the
condition set, the clock and what goes with the clock have moved. -/
theorem State.misread_keeps {s u : State} {f : Flight} {n : Nat} (h : s.misread f n = some u) :
    u.pending = s.pending ∧ u.running = s.running ∧ u.pins = s.pins ∧ u.startUp = s.startUp
      ∧ u.sampler = s.sampler ∧ u.rows = s.rows ∧ u.levelling = s.levelling ∧ u.fronts = s.fronts
      ∧ u.ranks = s.ranks ∧ u.rampClock = s.rampClock ∧ u.occ = s.occ ∧ u.switch = s.switch
      ∧ u.service = s.service := by
  dsimp only [State.misread] at h
  repeat' split at h
  all_goals simp_all
  subst h
  simp

/-- So is the moment at which a fault makes a dominant bit read recessive. -/
theorem State.faultyRead_keeps {s u : State} {n : Nat} (h : s.faultyRead n = some u) :
    u.pending = s.pending ∧ u.running = s.running ∧ u.pins = s.pins ∧ u.startUp = s.startUp
      ∧ u.sampler = s.sampler ∧ u.rows = s.rows ∧ u.levelling = s.levelling ∧ u.fronts = s.fronts
      ∧ u.ranks = s.ranks ∧ u.rampClock = s.rampClock ∧ u.occ = s.occ ∧ u.switch = s.switch
      ∧ u.service = s.service := by
  dsimp only [State.faultyRead] at h
  repeat' split at h
  all_goals simp_all
  subst h
  simp

/-- And so is the moment of a garble. -/
theorem State.garbleMoment_keeps {s u : State} (h : s.garbleMoment = some u) :
    u.pending = s.pending ∧ u.running = s.running ∧ u.pins = s.pins ∧ u.startUp = s.startUp
      ∧ u.sampler = s.sampler ∧ u.rows = s.rows ∧ u.levelling = s.levelling ∧ u.fronts = s.fronts
      ∧ u.ranks = s.ranks ∧ u.rampClock = s.rampClock ∧ u.occ = s.occ ∧ u.switch = s.switch
      ∧ u.service = s.service := by
  unfold State.garbleMoment at h
  split at h
  · exact State.faultyRead_keeps h
  · rcases Option.or_eq_some_iff.mp h with h | ⟨-, h⟩
    · exact State.misread_keeps h
    · exact State.faultyRead_keeps h
  · simp at h

@[simp] theorem State.withdraw_keeps (s : State) (b : Bool) :
    (s.withdraw b).pending = s.pending ∧ (s.withdraw b).clock = s.clock ∧ (s.withdraw b).running = s.running
      ∧ (s.withdraw b).pins = s.pins ∧ (s.withdraw b).dim = s.dim ∧ (s.withdraw b).startUp = s.startUp
      ∧ (s.withdraw b).sampler = s.sampler ∧ (s.withdraw b).rows = s.rows
      ∧ (s.withdraw b).levelling = s.levelling ∧ (s.withdraw b).fronts = s.fronts
      ∧ (s.withdraw b).ranks = s.ranks ∧ (s.withdraw b).rampClock = s.rampClock ∧ (s.withdraw b).occ = s.occ
      ∧ (s.withdraw b).switch = s.switch ∧ (s.withdraw b).service = s.service := by
  dsimp only [State.withdraw]
  repeat' split
  all_goals simp

@[simp] theorem State.partingEnd_keeps (s : State) :
    s.partingEnd.pending = s.pending ∧ s.partingEnd.clock = s.clock ∧ s.partingEnd.running = s.running
      ∧ s.partingEnd.pins = s.pins ∧ s.partingEnd.dim = s.dim ∧ s.partingEnd.sampler = s.sampler
      ∧ s.partingEnd.rampClock = s.rampClock ∧ s.partingEnd.occ = s.occ := by
  dsimp only [State.partingEnd]
  all_goals simp

@[simp] theorem State.dropInFlight_keeps (s : State) (e : QueueEntry) :
    (s.dropInFlight e).pending = s.pending ∧ (s.dropInFlight e).clock = s.clock
      ∧ (s.dropInFlight e).running = s.running ∧ (s.dropInFlight e).pins = s.pins
      ∧ (s.dropInFlight e).dim = s.dim ∧ (s.dropInFlight e).sampler = s.sampler
      ∧ (s.dropInFlight e).rampClock = s.rampClock ∧ (s.dropInFlight e).occ = s.occ := by
  dsimp only [State.dropInFlight]
  repeat' split
  all_goals simp

@[simp] theorem State.completed_keeps (s : State) (f : Flight) :
    (s.completed f).pending = s.pending ∧ (s.completed f).clock = s.clock
      ∧ (s.completed f).running = s.running ∧ (s.completed f).pins = s.pins ∧ (s.completed f).dim = s.dim
      ∧ (s.completed f).startUp = s.startUp ∧ (s.completed f).conditions = s.conditions
      ∧ (s.completed f).sampler = s.sampler ∧ (s.completed f).rows = s.rows
      ∧ (s.completed f).levelling = s.levelling ∧ (s.completed f).fronts = s.fronts
      ∧ (s.completed f).ranks = s.ranks ∧ (s.completed f).rampClock = s.rampClock
      ∧ (s.completed f).occ = s.occ ∧ (s.completed f).switch = s.switch ∧ (s.completed f).service = s.service := by
  dsimp only [State.completed]
  all_goals simp

@[simp] theorem State.joinHeldFull_keeps (s : State) :
    s.joinHeldFull.pending = s.pending ∧ s.joinHeldFull.clock = s.clock ∧ s.joinHeldFull.running = s.running
      ∧ s.joinHeldFull.pins = s.pins ∧ s.joinHeldFull.dim = s.dim ∧ s.joinHeldFull.startUp = s.startUp
      ∧ s.joinHeldFull.conditions = s.conditions ∧ s.joinHeldFull.sampler = s.sampler
      ∧ s.joinHeldFull.rows = s.rows ∧ s.joinHeldFull.levelling = s.levelling
      ∧ s.joinHeldFull.fronts = s.fronts ∧ s.joinHeldFull.ranks = s.ranks
      ∧ s.joinHeldFull.rampClock = s.rampClock ∧ s.joinHeldFull.occ = s.occ
      ∧ s.joinHeldFull.switch = s.switch ∧ s.joinHeldFull.line = s.line ∧ s.joinHeldFull.rx = s.rx
      ∧ s.joinHeldFull.service = s.service := by
  dsimp only [State.joinHeldFull]
  repeat' split
  all_goals simp

/-- With nothing in flight, stopping leaves ROW and the condition set as they were. -/
theorem State.stopDriving_none {s : State} (h : s.tx.flight = none) :
    s.stopDriving.line = s.line ∧ s.stopDriving.conditions = s.conditions := by
  simp [State.stopDriving, h]

end Sys2Proof.Machine
end

