-- ==== Sys2Proof/Laws/Tables.lean ====
section
/-! SUPPORT. The front tracker, the levelling tick, occupancy and the switch unit: what each shared
operation leaves as it was, and what the small ones do. -/

namespace Sys2Proof.Machine

/-! ## The front table's lists -/

@[simp] theorem insertFront_length (f : FrontRecord) (t : List FrontRecord) :
    (insertFront f t).length = t.length + 1 := by
  induction t with
  | nil => rfl
  | cons g gs ih => unfold insertFront; split <;> simp [ih]

@[simp] theorem mem_insertFront {f g : FrontRecord} {t : List FrontRecord} :
    g ∈ insertFront f t ↔ g = f ∨ g ∈ t := by
  induction t with
  | nil => simp [insertFront]
  | cons h hs ih =>
    unfold insertFront
    split
    · simp
    · simp only [List.mem_cons, ih]
      exact or_left_comm

@[simp] theorem replaceFront_length (t : List FrontRecord) (f : FrontRecord) :
    (replaceFront t f).length = t.length := by simp [replaceFront]

theorem removeFront_length_le (t : List FrontRecord) (o n : Nat) :
    (removeFront t o n).length ≤ t.length := List.length_filter_le ..

/-! ## What each leaves as it was -/

@[simp] theorem State.updateFrontClaim_keeps (s : State) :
    s.updateFrontClaim.pending = s.pending ∧ s.updateFrontClaim.clock = s.clock
      ∧ s.updateFrontClaim.running = s.running ∧ s.updateFrontClaim.pins = s.pins
      ∧ s.updateFrontClaim.dim = s.dim ∧ s.updateFrontClaim.startUp = s.startUp
      ∧ s.updateFrontClaim.conditions = s.conditions ∧ s.updateFrontClaim.sampler = s.sampler
      ∧ s.updateFrontClaim.rows = s.rows ∧ s.updateFrontClaim.levelling = s.levelling
      ∧ s.updateFrontClaim.fronts = s.fronts ∧ s.updateFrontClaim.rampClock = s.rampClock
      ∧ s.updateFrontClaim.occ = s.occ ∧ s.updateFrontClaim.switch = s.switch
      ∧ s.updateFrontClaim.line = s.line ∧ s.updateFrontClaim.rx = s.rx ∧ s.updateFrontClaim.tx = s.tx
      ∧ s.updateFrontClaim.service = s.service := by
  dsimp only [State.updateFrontClaim]
  all_goals simp

@[simp] theorem State.formFastValues_keeps (s : State) :
    s.formFastValues.pending = s.pending ∧ s.formFastValues.clock = s.clock
      ∧ s.formFastValues.running = s.running ∧ s.formFastValues.pins = s.pins ∧ s.formFastValues.dim = s.dim
      ∧ s.formFastValues.startUp = s.startUp ∧ s.formFastValues.conditions = s.conditions
      ∧ s.formFastValues.sampler = s.sampler ∧ s.formFastValues.rows = s.rows
      ∧ s.formFastValues.levelling = s.levelling ∧ s.formFastValues.ranks = s.ranks
      ∧ s.formFastValues.rampClock = s.rampClock ∧ s.formFastValues.occ = s.occ
      ∧ s.formFastValues.switch = s.switch ∧ s.formFastValues.line = s.line ∧ s.formFastValues.rx = s.rx
      ∧ s.formFastValues.tx = s.tx ∧ s.formFastValues.service = s.service := by
  dsimp only [State.formFastValues]
  repeat' split
  all_goals simp

@[simp] theorem State.takeNotice_keeps (s : State) (n : Notice) :
    (s.takeNotice n).pending = s.pending ∧ (s.takeNotice n).clock = s.clock
      ∧ (s.takeNotice n).running = s.running ∧ (s.takeNotice n).pins = s.pins ∧ (s.takeNotice n).dim = s.dim
      ∧ (s.takeNotice n).startUp = s.startUp ∧ (s.takeNotice n).sampler = s.sampler
      ∧ (s.takeNotice n).rows = s.rows ∧ (s.takeNotice n).levelling = s.levelling
      ∧ (s.takeNotice n).rampClock = s.rampClock ∧ (s.takeNotice n).occ = s.occ
      ∧ (s.takeNotice n).switch = s.switch ∧ (s.takeNotice n).line = s.line ∧ (s.takeNotice n).rx = s.rx
      ∧ (s.takeNotice n).tx = s.tx ∧ (s.takeNotice n).service = s.service := by
  dsimp only [State.takeNotice]
  repeat' split
  all_goals simp

@[simp] theorem State.startFastTrack_keeps (s : State) :
    s.startFastTrack.pending = s.pending ∧ s.startFastTrack.clock = s.clock
      ∧ s.startFastTrack.running = s.running ∧ s.startFastTrack.pins = s.pins ∧ s.startFastTrack.dim = s.dim
      ∧ s.startFastTrack.startUp = s.startUp ∧ s.startFastTrack.conditions = s.conditions
      ∧ s.startFastTrack.sampler = s.sampler ∧ s.startFastTrack.rows = s.rows
      ∧ s.startFastTrack.levelling = s.levelling ∧ s.startFastTrack.ranks = s.ranks
      ∧ s.startFastTrack.rampClock = s.rampClock ∧ s.startFastTrack.occ = s.occ
      ∧ s.startFastTrack.switch = s.switch ∧ s.startFastTrack.line = s.line ∧ s.startFastTrack.rx = s.rx
      ∧ s.startFastTrack.tx = s.tx ∧ s.startFastTrack.service = s.service := by
  dsimp only [State.startFastTrack]
  all_goals simp

@[simp] theorem State.placeSighting_keeps (s : State) (m : Nat) :
    (s.placeSighting m).1.pending = s.pending ∧ (s.placeSighting m).1.clock = s.clock
      ∧ (s.placeSighting m).1.running = s.running ∧ (s.placeSighting m).1.pins = s.pins
      ∧ (s.placeSighting m).1.dim = s.dim ∧ (s.placeSighting m).1.startUp = s.startUp
      ∧ (s.placeSighting m).1.sampler = s.sampler ∧ (s.placeSighting m).1.rows = s.rows
      ∧ (s.placeSighting m).1.levelling = s.levelling ∧ (s.placeSighting m).1.ranks = s.ranks
      ∧ (s.placeSighting m).1.rampClock = s.rampClock ∧ (s.placeSighting m).1.occ = s.occ
      ∧ (s.placeSighting m).1.switch = s.switch ∧ (s.placeSighting m).1.line = s.line
      ∧ (s.placeSighting m).1.rx = s.rx ∧ (s.placeSighting m).1.tx = s.tx
      ∧ (s.placeSighting m).1.service = s.service := by
  dsimp only [State.placeSighting]
  repeat' split
  all_goals simp

@[simp] theorem State.ownFront_keeps (s : State) (m : Nat) :
    (s.ownFront m).pending = s.pending ∧ (s.ownFront m).clock = s.clock ∧ (s.ownFront m).running = s.running
      ∧ (s.ownFront m).pins = s.pins ∧ (s.ownFront m).dim = s.dim ∧ (s.ownFront m).startUp = s.startUp
      ∧ (s.ownFront m).sampler = s.sampler ∧ (s.ownFront m).rows = s.rows
      ∧ (s.ownFront m).levelling = s.levelling ∧ (s.ownFront m).ranks = s.ranks
      ∧ (s.ownFront m).rampClock = s.rampClock ∧ (s.ownFront m).occ = s.occ
      ∧ (s.ownFront m).switch = s.switch ∧ (s.ownFront m).line = s.line ∧ (s.ownFront m).rx = s.rx
      ∧ (s.ownFront m).service = s.service := by
  dsimp only [State.ownFront]
  repeat' split
  all_goals simp

@[simp] theorem State.evaluateDetector_keeps (s : State) :
    s.evaluateDetector.pending = s.pending ∧ s.evaluateDetector.clock = s.clock
      ∧ s.evaluateDetector.running = s.running ∧ s.evaluateDetector.pins = s.pins
      ∧ s.evaluateDetector.dim = s.dim ∧ s.evaluateDetector.startUp = s.startUp
      ∧ s.evaluateDetector.sampler = s.sampler ∧ s.evaluateDetector.rows = s.rows
      ∧ s.evaluateDetector.levelling = s.levelling ∧ s.evaluateDetector.ranks = s.ranks
      ∧ s.evaluateDetector.rampClock = s.rampClock ∧ s.evaluateDetector.occ = s.occ
      ∧ s.evaluateDetector.switch = s.switch ∧ s.evaluateDetector.line = s.line
      ∧ s.evaluateDetector.rx = s.rx ∧ s.evaluateDetector.service = s.service := by
  dsimp only [State.evaluateDetector]
  repeat' split
  all_goals simp

@[simp] theorem State.latchReading_keeps (s : State) (x : ReadingState) :
    (s.latchReading x).pending = s.pending ∧ (s.latchReading x).clock = s.clock
      ∧ (s.latchReading x).running = s.running ∧ (s.latchReading x).pins = s.pins
      ∧ (s.latchReading x).dim = s.dim ∧ (s.latchReading x).startUp = s.startUp
      ∧ (s.latchReading x).sampler = s.sampler ∧ (s.latchReading x).rows = s.rows
      ∧ (s.latchReading x).levelling = s.levelling ∧ (s.latchReading x).fronts = s.fronts
      ∧ (s.latchReading x).ranks = s.ranks ∧ (s.latchReading x).rampClock = s.rampClock
      ∧ (s.latchReading x).occ = s.occ ∧ (s.latchReading x).switch = s.switch
      ∧ (s.latchReading x).line = s.line ∧ (s.latchReading x).rx = s.rx ∧ (s.latchReading x).tx = s.tx
      ∧ (s.latchReading x).service = s.service := by
  dsimp only [State.latchReading]
  repeat' split
  all_goals simp

@[simp] theorem State.assertVacancy_keeps (s : State) :
    s.assertVacancy.pending = s.pending ∧ s.assertVacancy.clock = s.clock
      ∧ s.assertVacancy.running = s.running ∧ s.assertVacancy.pins = s.pins ∧ s.assertVacancy.dim = s.dim
      ∧ s.assertVacancy.startUp = s.startUp ∧ s.assertVacancy.conditions = s.conditions
      ∧ s.assertVacancy.sampler = s.sampler ∧ s.assertVacancy.rows = s.rows
      ∧ s.assertVacancy.levelling = s.levelling ∧ s.assertVacancy.fronts = s.fronts
      ∧ s.assertVacancy.rampClock = s.rampClock ∧ s.assertVacancy.occ = s.occ
      ∧ s.assertVacancy.switch = s.switch ∧ s.assertVacancy.line = s.line ∧ s.assertVacancy.rx = s.rx
      ∧ s.assertVacancy.tx = s.tx ∧ s.assertVacancy.service = s.service := by
  dsimp only [State.assertVacancy]
  all_goals simp

@[simp] theorem State.levelFrom_keeps (s : State) (ns : List Published) (x : Nat) (st : ReadingState) :
    (s.levelFrom ns x st).pending = s.pending ∧ (s.levelFrom ns x st).clock = s.clock
      ∧ (s.levelFrom ns x st).running = s.running ∧ (s.levelFrom ns x st).pins = s.pins
      ∧ (s.levelFrom ns x st).dim = s.dim ∧ (s.levelFrom ns x st).startUp = s.startUp
      ∧ (s.levelFrom ns x st).conditions = s.conditions ∧ (s.levelFrom ns x st).sampler = s.sampler
      ∧ (s.levelFrom ns x st).rows = s.rows ∧ (s.levelFrom ns x st).fronts = s.fronts
      ∧ (s.levelFrom ns x st).rampClock = s.rampClock ∧ (s.levelFrom ns x st).occ = s.occ
      ∧ (s.levelFrom ns x st).switch = s.switch ∧ (s.levelFrom ns x st).line = s.line
      ∧ (s.levelFrom ns x st).rx = s.rx ∧ (s.levelFrom ns x st).tx = s.tx
      ∧ (s.levelFrom ns x st).service = s.service := by
  dsimp only [State.levelFrom]
  all_goals simp

@[simp] theorem State.levelBlind_keeps (s : State) :
    s.levelBlind.pending = s.pending ∧ s.levelBlind.clock = s.clock ∧ s.levelBlind.running = s.running
      ∧ s.levelBlind.pins = s.pins ∧ s.levelBlind.dim = s.dim ∧ s.levelBlind.startUp = s.startUp
      ∧ s.levelBlind.conditions = s.conditions ∧ s.levelBlind.sampler = s.sampler
      ∧ s.levelBlind.rows = s.rows ∧ s.levelBlind.fronts = s.fronts ∧ s.levelBlind.rampClock = s.rampClock
      ∧ s.levelBlind.occ = s.occ ∧ s.levelBlind.switch = s.switch ∧ s.levelBlind.line = s.line
      ∧ s.levelBlind.rx = s.rx ∧ s.levelBlind.tx = s.tx ∧ s.levelBlind.service = s.service := by
  dsimp only [State.levelBlind]
  all_goals simp

@[simp] theorem State.frontTick_keeps (s : State) :
    s.frontTick.pending = s.pending ∧ s.frontTick.clock = s.clock ∧ s.frontTick.running = s.running
      ∧ s.frontTick.pins = s.pins ∧ s.frontTick.dim = s.dim ∧ s.frontTick.startUp = s.startUp
      ∧ s.frontTick.conditions = s.conditions ∧ s.frontTick.sampler = s.sampler ∧ s.frontTick.rows = s.rows
      ∧ s.frontTick.levelling = s.levelling ∧ s.frontTick.rampClock = s.rampClock ∧ s.frontTick.occ = s.occ
      ∧ s.frontTick.switch = s.switch ∧ s.frontTick.line = s.line ∧ s.frontTick.rx = s.rx
      ∧ s.frontTick.tx = s.tx ∧ s.frontTick.service = s.service := by
  dsimp only [State.frontTick]
  repeat' split
  all_goals simp

@[simp] theorem State.stepTickDone_keeps (s : State) :
    s.stepTickDone.pending = s.pending ∧ s.stepTickDone.clock = s.clock ∧ s.stepTickDone.running = s.running
      ∧ s.stepTickDone.pins = s.pins ∧ s.stepTickDone.dim = s.dim ∧ s.stepTickDone.startUp = s.startUp
      ∧ s.stepTickDone.conditions = s.conditions ∧ s.stepTickDone.sampler = s.sampler
      ∧ s.stepTickDone.rows = s.rows ∧ s.stepTickDone.levelling = s.levelling
      ∧ s.stepTickDone.fronts = s.fronts ∧ s.stepTickDone.rampClock = s.rampClock
      ∧ s.stepTickDone.occ = s.occ ∧ s.stepTickDone.switch = s.switch ∧ s.stepTickDone.line = s.line
      ∧ s.stepTickDone.rx = s.rx ∧ s.stepTickDone.tx = s.tx := by
  dsimp only [State.stepTickDone]
  repeat' split
  all_goals simp

@[simp] theorem State.payOwed_keeps (s : State) :
    s.payOwed.pending = s.pending ∧ s.payOwed.clock = s.clock ∧ s.payOwed.running = s.running
      ∧ s.payOwed.pins = s.pins ∧ s.payOwed.dim = s.dim ∧ s.payOwed.sampler = s.sampler
      ∧ s.payOwed.rampClock = s.rampClock ∧ s.payOwed.occ = s.occ := by
  dsimp only [State.payOwed]
  repeat' split
  all_goals simp

@[simp] theorem State.countStep_keeps (s : State) :
    s.countStep.pending = s.pending ∧ s.countStep.clock = s.clock ∧ s.countStep.running = s.running
      ∧ s.countStep.pins = s.pins ∧ s.countStep.dim = s.dim ∧ s.countStep.sampler = s.sampler
      ∧ s.countStep.rampClock = s.rampClock ∧ s.countStep.occ = s.occ := by
  dsimp only [State.countStep]
  repeat' split
  all_goals simp

@[simp] theorem State.becomeOccupied_keeps (s : State) :
    s.becomeOccupied.pending = s.pending ∧ s.becomeOccupied.clock = s.clock
      ∧ s.becomeOccupied.running = s.running ∧ s.becomeOccupied.pins = s.pins ∧ s.becomeOccupied.dim = s.dim
      ∧ s.becomeOccupied.startUp = s.startUp ∧ s.becomeOccupied.conditions = s.conditions
      ∧ s.becomeOccupied.sampler = s.sampler ∧ s.becomeOccupied.rows = s.rows
      ∧ s.becomeOccupied.levelling = s.levelling ∧ s.becomeOccupied.fronts = s.fronts
      ∧ s.becomeOccupied.rampClock = s.rampClock ∧ s.becomeOccupied.switch = s.switch
      ∧ s.becomeOccupied.line = s.line ∧ s.becomeOccupied.rx = s.rx ∧ s.becomeOccupied.tx = s.tx
      ∧ s.becomeOccupied.service = s.service := by
  dsimp only [State.becomeOccupied]
  all_goals simp

@[simp] theorem State.takeEdge_keeps (s : State) :
    s.takeEdge.pending = s.pending ∧ s.takeEdge.clock = s.clock ∧ s.takeEdge.running = s.running
      ∧ s.takeEdge.pins = s.pins ∧ s.takeEdge.dim = s.dim ∧ s.takeEdge.startUp = s.startUp
      ∧ s.takeEdge.conditions = s.conditions ∧ s.takeEdge.sampler = s.sampler ∧ s.takeEdge.rows = s.rows
      ∧ s.takeEdge.levelling = s.levelling ∧ s.takeEdge.fronts = s.fronts
      ∧ s.takeEdge.rampClock = s.rampClock ∧ s.takeEdge.switch = s.switch ∧ s.takeEdge.line = s.line
      ∧ s.takeEdge.rx = s.rx ∧ s.takeEdge.tx = s.tx ∧ s.takeEdge.service = s.service := by
  dsimp only [State.takeEdge]
  repeat' split
  all_goals simp

@[simp] theorem State.assertSwitch_keeps (s : State) :
    s.assertSwitch.pending = s.pending ∧ s.assertSwitch.clock = s.clock ∧ s.assertSwitch.running = s.running
      ∧ s.assertSwitch.pins = s.pins ∧ s.assertSwitch.dim = s.dim ∧ s.assertSwitch.startUp = s.startUp
      ∧ s.assertSwitch.conditions = s.conditions ∧ s.assertSwitch.sampler = s.sampler
      ∧ s.assertSwitch.rows = s.rows ∧ s.assertSwitch.levelling = s.levelling
      ∧ s.assertSwitch.fronts = s.fronts ∧ s.assertSwitch.rampClock = s.rampClock
      ∧ s.assertSwitch.occ = s.occ ∧ s.assertSwitch.switch = s.switch ∧ s.assertSwitch.line = s.line
      ∧ s.assertSwitch.rx = s.rx ∧ s.assertSwitch.tx = s.tx ∧ s.assertSwitch.service = s.service := by
  dsimp only [State.assertSwitch]
  repeat' split
  all_goals simp

@[simp] theorem State.becomeVacant_keeps (s : State) :
    s.becomeVacant.pending = s.pending ∧ s.becomeVacant.clock = s.clock ∧ s.becomeVacant.running = s.running
      ∧ s.becomeVacant.pins = s.pins ∧ s.becomeVacant.dim = s.dim ∧ s.becomeVacant.startUp = s.startUp
      ∧ s.becomeVacant.conditions = s.conditions ∧ s.becomeVacant.sampler = s.sampler
      ∧ s.becomeVacant.rows = s.rows ∧ s.becomeVacant.levelling = s.levelling
      ∧ s.becomeVacant.fronts = s.fronts ∧ s.becomeVacant.rampClock = s.rampClock
      ∧ s.becomeVacant.line = s.line ∧ s.becomeVacant.rx = s.rx ∧ s.becomeVacant.tx = s.tx
      ∧ s.becomeVacant.service = s.service := by
  dsimp only [State.becomeVacant]
  all_goals simp

@[simp] theorem State.shortPress_keeps (s : State) :
    s.shortPress.pending = s.pending ∧ s.shortPress.clock = s.clock ∧ s.shortPress.running = s.running
      ∧ s.shortPress.pins = s.pins ∧ s.shortPress.dim = s.dim ∧ s.shortPress.startUp = s.startUp
      ∧ s.shortPress.conditions = s.conditions ∧ s.shortPress.sampler = s.sampler
      ∧ s.shortPress.rows = s.rows ∧ s.shortPress.levelling = s.levelling ∧ s.shortPress.fronts = s.fronts
      ∧ s.shortPress.rampClock = s.rampClock ∧ s.shortPress.occ = s.occ ∧ s.shortPress.line = s.line
      ∧ s.shortPress.rx = s.rx ∧ s.shortPress.tx = s.tx ∧ s.shortPress.service = s.service := by
  dsimp only [State.shortPress]
  repeat' split
  all_goals simp

@[simp] theorem State.longPress_keeps (s : State) :
    s.longPress.pending = s.pending ∧ s.longPress.clock = s.clock ∧ s.longPress.running = s.running
      ∧ s.longPress.pins = s.pins ∧ s.longPress.dim = s.dim ∧ s.longPress.startUp = s.startUp
      ∧ s.longPress.conditions = s.conditions ∧ s.longPress.sampler = s.sampler ∧ s.longPress.rows = s.rows
      ∧ s.longPress.levelling = s.levelling ∧ s.longPress.fronts = s.fronts
      ∧ s.longPress.rampClock = s.rampClock ∧ s.longPress.occ = s.occ ∧ s.longPress.line = s.line
      ∧ s.longPress.rx = s.rx ∧ s.longPress.tx = s.tx ∧ s.longPress.service = s.service := by
  dsimp only [State.longPress]
  repeat' split
  all_goals simp

@[simp] theorem State.onPress_keeps (s : State) :
    s.onPress.pending = s.pending ∧ s.onPress.clock = s.clock ∧ s.onPress.running = s.running
      ∧ s.onPress.pins = s.pins ∧ s.onPress.dim = s.dim ∧ s.onPress.startUp = s.startUp
      ∧ s.onPress.conditions = s.conditions ∧ s.onPress.sampler = s.sampler ∧ s.onPress.rows = s.rows
      ∧ s.onPress.levelling = s.levelling ∧ s.onPress.fronts = s.fronts ∧ s.onPress.ranks = s.ranks
      ∧ s.onPress.rampClock = s.rampClock ∧ s.onPress.occ = s.occ ∧ s.onPress.line = s.line
      ∧ s.onPress.rx = s.rx ∧ s.onPress.tx = s.tx ∧ s.onPress.service = s.service := by
  dsimp only [State.onPress]
  repeat' split
  all_goals simp

@[simp] theorem State.onRelease_keeps (s : State) :
    s.onRelease.pending = s.pending ∧ s.onRelease.clock = s.clock ∧ s.onRelease.running = s.running
      ∧ s.onRelease.pins = s.pins ∧ s.onRelease.dim = s.dim ∧ s.onRelease.startUp = s.startUp
      ∧ s.onRelease.conditions = s.conditions ∧ s.onRelease.sampler = s.sampler ∧ s.onRelease.rows = s.rows
      ∧ s.onRelease.levelling = s.levelling ∧ s.onRelease.fronts = s.fronts
      ∧ s.onRelease.rampClock = s.rampClock ∧ s.onRelease.occ = s.occ ∧ s.onRelease.line = s.line
      ∧ s.onRelease.rx = s.rx ∧ s.onRelease.tx = s.tx ∧ s.onRelease.service = s.service := by
  dsimp only [State.onRelease]
  repeat' split
  all_goals simp

end Sys2Proof.Machine
end

