-- ==== Sys2Proof/Laws/Reception.lean ====
section
/-! SUPPORT. The service engine and the receiver: what each shared operation leaves as it was, and what
the small ones do. -/

namespace Sys2Proof.Machine

/-- The station that a request leaves, out of the pair. -/
theorem State.perform_left {s t : State} {b : Bool} {a : Action} {o : Option Answer}
    (h : s.perform b a = (t, o)) : t = (s.perform b a).1 := by rw [h]

@[simp] theorem State.leaveHold_keeps (s : State) (h : Hold) (m : Option MatchRecord) :
    (s.leaveHold h m).pending = s.pending ∧ (s.leaveHold h m).clock = s.clock
      ∧ (s.leaveHold h m).running = s.running ∧ (s.leaveHold h m).pins = s.pins
      ∧ (s.leaveHold h m).dim = s.dim ∧ (s.leaveHold h m).startUp = s.startUp
      ∧ (s.leaveHold h m).conditions = s.conditions ∧ (s.leaveHold h m).sampler = s.sampler
      ∧ (s.leaveHold h m).rows = s.rows ∧ (s.leaveHold h m).levelling = s.levelling
      ∧ (s.leaveHold h m).fronts = s.fronts ∧ (s.leaveHold h m).rampClock = s.rampClock
      ∧ (s.leaveHold h m).occ = s.occ ∧ (s.leaveHold h m).switch = s.switch ∧ (s.leaveHold h m).line = s.line
      ∧ (s.leaveHold h m).rx = s.rx ∧ (s.leaveHold h m).tx = s.tx := by
  dsimp only [State.leaveHold]
  all_goals simp

@[simp] theorem State.leaveHold_service (s : State) (h : Hold) (m : Option MatchRecord) :
    (s.leaveHold h m).service = { s.service with hold := h, cause := none, matching := m } := by
  simp [State.leaveHold]

@[simp] theorem State.doHold_keeps (s : State) :
    s.doHold.pending = s.pending ∧ s.doHold.clock = s.clock ∧ s.doHold.running = s.running
      ∧ s.doHold.pins = s.pins ∧ s.doHold.dim = s.dim ∧ s.doHold.sampler = s.sampler
      ∧ s.doHold.rampClock = s.rampClock ∧ s.doHold.occ = s.occ := by
  dsimp only [State.doHold]
  repeat' split
  all_goals simp

@[simp] theorem State.doRelease_keeps (s : State) :
    s.doRelease.pending = s.pending ∧ s.doRelease.clock = s.clock ∧ s.doRelease.running = s.running
      ∧ s.doRelease.pins = s.pins ∧ s.doRelease.dim = s.dim ∧ s.doRelease.sampler = s.sampler
      ∧ s.doRelease.rampClock = s.rampClock ∧ s.doRelease.occ = s.occ := by
  dsimp only [State.doRelease]
  repeat' split
  all_goals simp

@[simp] theorem State.doStep_keeps (s : State) (b : Bool) :
    (s.doStep b).pending = s.pending ∧ (s.doStep b).clock = s.clock ∧ (s.doStep b).running = s.running
      ∧ (s.doStep b).pins = s.pins ∧ (s.doStep b).dim = s.dim ∧ (s.doStep b).startUp = s.startUp
      ∧ (s.doStep b).conditions = s.conditions ∧ (s.doStep b).sampler = s.sampler
      ∧ (s.doStep b).rows = s.rows ∧ (s.doStep b).levelling = s.levelling ∧ (s.doStep b).fronts = s.fronts
      ∧ (s.doStep b).ranks = s.ranks ∧ (s.doStep b).rampClock = s.rampClock ∧ (s.doStep b).occ = s.occ
      ∧ (s.doStep b).switch = s.switch ∧ (s.doStep b).line = s.line ∧ (s.doStep b).rx = s.rx
      ∧ (s.doStep b).tx = s.tx := by
  dsimp only [State.doStep]
  all_goals simp

@[simp] theorem State.doRunToMatch_keeps (s : State) (m : MatchRecord) :
    (s.doRunToMatch m).pending = s.pending ∧ (s.doRunToMatch m).clock = s.clock
      ∧ (s.doRunToMatch m).running = s.running ∧ (s.doRunToMatch m).pins = s.pins
      ∧ (s.doRunToMatch m).dim = s.dim ∧ (s.doRunToMatch m).startUp = s.startUp
      ∧ (s.doRunToMatch m).conditions = s.conditions ∧ (s.doRunToMatch m).sampler = s.sampler
      ∧ (s.doRunToMatch m).rows = s.rows ∧ (s.doRunToMatch m).levelling = s.levelling
      ∧ (s.doRunToMatch m).fronts = s.fronts ∧ (s.doRunToMatch m).rampClock = s.rampClock
      ∧ (s.doRunToMatch m).occ = s.occ ∧ (s.doRunToMatch m).switch = s.switch
      ∧ (s.doRunToMatch m).line = s.line ∧ (s.doRunToMatch m).rx = s.rx ∧ (s.doRunToMatch m).tx = s.tx := by
  dsimp only [State.doRunToMatch]
  repeat' split
  all_goals simp

@[simp] theorem State.doForce_keeps (s : State) (x : PerRank Bool) (l : Nat) :
    (s.doForce x l).pending = s.pending ∧ (s.doForce x l).clock = s.clock
      ∧ (s.doForce x l).running = s.running ∧ (s.doForce x l).pins = s.pins ∧ (s.doForce x l).dim = s.dim
      ∧ (s.doForce x l).startUp = s.startUp ∧ (s.doForce x l).conditions = s.conditions
      ∧ (s.doForce x l).sampler = s.sampler ∧ (s.doForce x l).rows = s.rows
      ∧ (s.doForce x l).levelling = s.levelling ∧ (s.doForce x l).fronts = s.fronts
      ∧ (s.doForce x l).rampClock = s.rampClock ∧ (s.doForce x l).occ = s.occ
      ∧ (s.doForce x l).switch = s.switch ∧ (s.doForce x l).line = s.line ∧ (s.doForce x l).rx = s.rx
      ∧ (s.doForce x l).tx = s.tx := by
  dsimp only [State.doForce]
  all_goals simp

@[simp] theorem State.doCancel_keeps (s : State) (x : PerRank Bool) :
    (s.doCancel x).pending = s.pending ∧ (s.doCancel x).clock = s.clock ∧ (s.doCancel x).running = s.running
      ∧ (s.doCancel x).pins = s.pins ∧ (s.doCancel x).dim = s.dim ∧ (s.doCancel x).startUp = s.startUp
      ∧ (s.doCancel x).conditions = s.conditions ∧ (s.doCancel x).sampler = s.sampler
      ∧ (s.doCancel x).rows = s.rows ∧ (s.doCancel x).levelling = s.levelling
      ∧ (s.doCancel x).fronts = s.fronts ∧ (s.doCancel x).rampClock = s.rampClock
      ∧ (s.doCancel x).occ = s.occ ∧ (s.doCancel x).switch = s.switch ∧ (s.doCancel x).line = s.line
      ∧ (s.doCancel x).rx = s.rx ∧ (s.doCancel x).tx = s.tx := by
  dsimp only [State.doCancel]
  repeat' split
  all_goals simp

@[simp] theorem State.doLoad_keeps (s : State) :
    s.doLoad.pending = s.pending ∧ s.doLoad.clock = s.clock ∧ s.doLoad.running = s.running
      ∧ s.doLoad.pins = s.pins ∧ s.doLoad.dim = s.dim ∧ s.doLoad.startUp = s.startUp
      ∧ s.doLoad.conditions = s.conditions ∧ s.doLoad.sampler = s.sampler ∧ s.doLoad.rows = s.rows
      ∧ s.doLoad.levelling = s.levelling ∧ s.doLoad.fronts = s.fronts ∧ s.doLoad.ranks = s.ranks
      ∧ s.doLoad.rampClock = s.rampClock ∧ s.doLoad.occ = s.occ ∧ s.doLoad.switch = s.switch
      ∧ s.doLoad.line = s.line ∧ s.doLoad.rx = s.rx ∧ s.doLoad.tx = s.tx := by
  dsimp only [State.doLoad]
  all_goals simp

@[simp] theorem State.doShift_keeps (s : State) :
    s.doShift.1.pending = s.pending ∧ s.doShift.1.clock = s.clock ∧ s.doShift.1.running = s.running
      ∧ s.doShift.1.pins = s.pins ∧ s.doShift.1.dim = s.dim ∧ s.doShift.1.startUp = s.startUp
      ∧ s.doShift.1.conditions = s.conditions ∧ s.doShift.1.sampler = s.sampler ∧ s.doShift.1.rows = s.rows
      ∧ s.doShift.1.levelling = s.levelling ∧ s.doShift.1.fronts = s.fronts ∧ s.doShift.1.ranks = s.ranks
      ∧ s.doShift.1.rampClock = s.rampClock ∧ s.doShift.1.occ = s.occ ∧ s.doShift.1.switch = s.switch
      ∧ s.doShift.1.line = s.line ∧ s.doShift.1.rx = s.rx ∧ s.doShift.1.tx = s.tx := by
  dsimp only [State.doShift]
  repeat' split
  all_goals simp

@[simp] theorem State.perform_keeps (s : State) (b : Bool) (a : Action) :
    (s.perform b a).1.pending = s.pending ∧ (s.perform b a).1.clock = s.clock
      ∧ (s.perform b a).1.running = s.running ∧ (s.perform b a).1.pins = s.pins
      ∧ (s.perform b a).1.dim = s.dim ∧ (s.perform b a).1.sampler = s.sampler
      ∧ (s.perform b a).1.rampClock = s.rampClock ∧ (s.perform b a).1.occ = s.occ := by
  dsimp only [State.perform]
  repeat' split
  all_goals simp

@[simp] theorem State.takeUnicast_keeps (s : State) (q : RequestBody) :
    (s.takeUnicast q).pending = s.pending ∧ (s.takeUnicast q).clock = s.clock
      ∧ (s.takeUnicast q).running = s.running ∧ (s.takeUnicast q).pins = s.pins
      ∧ (s.takeUnicast q).dim = s.dim ∧ (s.takeUnicast q).sampler = s.sampler
      ∧ (s.takeUnicast q).rampClock = s.rampClock ∧ (s.takeUnicast q).occ = s.occ := by
  dsimp only [State.takeUnicast]
  repeat' split
  all_goals first
    | (rename_i h; obtain rfl := State.perform_left h; simp)
    | simp

@[simp] theorem State.takeBroadcast_keeps (s : State) (q : RequestBody) :
    (s.takeBroadcast q).pending = s.pending ∧ (s.takeBroadcast q).clock = s.clock
      ∧ (s.takeBroadcast q).running = s.running ∧ (s.takeBroadcast q).pins = s.pins
      ∧ (s.takeBroadcast q).dim = s.dim ∧ (s.takeBroadcast q).sampler = s.sampler
      ∧ (s.takeBroadcast q).rampClock = s.rampClock ∧ (s.takeBroadcast q).occ = s.occ := by
  dsimp only [State.takeBroadcast]
  repeat' split
  all_goals simp

@[simp] theorem State.takeRequest_keeps (s : State) (q : RequestBody) :
    (s.takeRequest q).pending = s.pending ∧ (s.takeRequest q).clock = s.clock
      ∧ (s.takeRequest q).running = s.running ∧ (s.takeRequest q).pins = s.pins
      ∧ (s.takeRequest q).dim = s.dim ∧ (s.takeRequest q).sampler = s.sampler
      ∧ (s.takeRequest q).rampClock = s.rampClock ∧ (s.takeRequest q).occ = s.occ := by
  dsimp only [State.takeRequest]
  repeat' split
  all_goals simp

@[simp] theorem State.answerWant_keeps (s : State) (w : List Nat) :
    (s.answerWant w).pending = s.pending ∧ (s.answerWant w).clock = s.clock
      ∧ (s.answerWant w).running = s.running ∧ (s.answerWant w).pins = s.pins ∧ (s.answerWant w).dim = s.dim
      ∧ (s.answerWant w).startUp = s.startUp ∧ (s.answerWant w).conditions = s.conditions
      ∧ (s.answerWant w).sampler = s.sampler ∧ (s.answerWant w).rows = s.rows
      ∧ (s.answerWant w).levelling = s.levelling ∧ (s.answerWant w).fronts = s.fronts
      ∧ (s.answerWant w).ranks = s.ranks ∧ (s.answerWant w).rampClock = s.rampClock
      ∧ (s.answerWant w).occ = s.occ ∧ (s.answerWant w).switch = s.switch ∧ (s.answerWant w).line = s.line
      ∧ (s.answerWant w).rx = s.rx ∧ (s.answerWant w).service = s.service := by
  dsimp only [State.answerWant]
  repeat' split
  all_goals simp

@[simp] theorem State.takeFull_keeps (s : State) (p n : Nat) (x : Published) :
    (s.takeFull p n x).pending = s.pending ∧ (s.takeFull p n x).clock = s.clock
      ∧ (s.takeFull p n x).running = s.running ∧ (s.takeFull p n x).pins = s.pins
      ∧ (s.takeFull p n x).dim = s.dim ∧ (s.takeFull p n x).startUp = s.startUp
      ∧ (s.takeFull p n x).conditions = s.conditions ∧ (s.takeFull p n x).sampler = s.sampler
      ∧ (s.takeFull p n x).levelling = s.levelling ∧ (s.takeFull p n x).fronts = s.fronts
      ∧ (s.takeFull p n x).ranks = s.ranks ∧ (s.takeFull p n x).rampClock = s.rampClock
      ∧ (s.takeFull p n x).occ = s.occ ∧ (s.takeFull p n x).switch = s.switch
      ∧ (s.takeFull p n x).line = s.line ∧ (s.takeFull p n x).rx = s.rx
      ∧ (s.takeFull p n x).service = s.service := by
  dsimp only [State.takeFull]
  all_goals simp

@[simp] theorem State.takeDelta_keeps (s : State) (p n : Nat) (d : Delta) :
    (s.takeDelta p n d).pending = s.pending ∧ (s.takeDelta p n d).clock = s.clock
      ∧ (s.takeDelta p n d).running = s.running ∧ (s.takeDelta p n d).pins = s.pins
      ∧ (s.takeDelta p n d).dim = s.dim ∧ (s.takeDelta p n d).startUp = s.startUp
      ∧ (s.takeDelta p n d).sampler = s.sampler ∧ (s.takeDelta p n d).levelling = s.levelling
      ∧ (s.takeDelta p n d).fronts = s.fronts ∧ (s.takeDelta p n d).ranks = s.ranks
      ∧ (s.takeDelta p n d).rampClock = s.rampClock ∧ (s.takeDelta p n d).occ = s.occ
      ∧ (s.takeDelta p n d).switch = s.switch ∧ (s.takeDelta p n d).line = s.line
      ∧ (s.takeDelta p n d).rx = s.rx ∧ (s.takeDelta p n d).service = s.service := by
  dsimp only [State.takeDelta]
  repeat' split
  all_goals simp

@[simp] theorem State.deliver_keeps (s : State) (k p n : Nat) (b : List Byte) :
    (s.deliver k p n b).pending = s.pending ∧ (s.deliver k p n b).clock = s.clock
      ∧ (s.deliver k p n b).running = s.running ∧ (s.deliver k p n b).pins = s.pins
      ∧ (s.deliver k p n b).dim = s.dim ∧ (s.deliver k p n b).sampler = s.sampler
      ∧ (s.deliver k p n b).rampClock = s.rampClock ∧ (s.deliver k p n b).occ = s.occ := by
  dsimp only [State.deliver, State.orMalformed]
  repeat' split
  all_goals first | trivial | simp

@[simp] theorem State.acceptFrame_keeps (s : State) (k p n : Nat) (b : List Byte) :
    (s.acceptFrame k p n b).pending = s.pending ∧ (s.acceptFrame k p n b).clock = s.clock
      ∧ (s.acceptFrame k p n b).running = s.running ∧ (s.acceptFrame k p n b).pins = s.pins
      ∧ (s.acceptFrame k p n b).dim = s.dim ∧ (s.acceptFrame k p n b).sampler = s.sampler
      ∧ (s.acceptFrame k p n b).rampClock = s.rampClock ∧ (s.acceptFrame k p n b).occ = s.occ := by
  dsimp only [State.acceptFrame]
  repeat' split
  all_goals simp

@[simp] theorem State.frameHeard_keeps (s : State) :
    s.frameHeard.pending = s.pending ∧ s.frameHeard.clock = s.clock ∧ s.frameHeard.running = s.running
      ∧ s.frameHeard.pins = s.pins ∧ s.frameHeard.dim = s.dim ∧ s.frameHeard.startUp = s.startUp
      ∧ s.frameHeard.sampler = s.sampler ∧ s.frameHeard.rows = s.rows ∧ s.frameHeard.levelling = s.levelling
      ∧ s.frameHeard.fronts = s.fronts ∧ s.frameHeard.ranks = s.ranks ∧ s.frameHeard.rampClock = s.rampClock
      ∧ s.frameHeard.occ = s.occ ∧ s.frameHeard.switch = s.switch ∧ s.frameHeard.tx = s.tx
      ∧ s.frameHeard.service = s.service := by
  dsimp only [State.frameHeard]
  all_goals simp

@[simp] theorem State.hear_keeps (s : State) (k : Nat) (p : BitVec 6) (n : Nat) (b : List Byte) :
    (s.hear k p n b).pending = s.pending ∧ (s.hear k p n b).clock = s.clock
      ∧ (s.hear k p n b).running = s.running ∧ (s.hear k p n b).pins = s.pins ∧ (s.hear k p n b).dim = s.dim
      ∧ (s.hear k p n b).sampler = s.sampler ∧ (s.hear k p n b).rampClock = s.rampClock
      ∧ (s.hear k p n b).occ = s.occ := by
  dsimp only [State.hear]
  repeat' split
  all_goals simp

@[simp] theorem State.idlePoint_keeps (s : State) :
    s.idlePoint.pending = s.pending ∧ s.idlePoint.clock = s.clock ∧ s.idlePoint.running = s.running
      ∧ s.idlePoint.pins = s.pins ∧ s.idlePoint.dim = s.dim ∧ s.idlePoint.startUp = s.startUp
      ∧ s.idlePoint.conditions = s.conditions ∧ s.idlePoint.sampler = s.sampler ∧ s.idlePoint.rows = s.rows
      ∧ s.idlePoint.levelling = s.levelling ∧ s.idlePoint.fronts = s.fronts ∧ s.idlePoint.ranks = s.ranks
      ∧ s.idlePoint.rampClock = s.rampClock ∧ s.idlePoint.occ = s.occ ∧ s.idlePoint.switch = s.switch
      ∧ s.idlePoint.tx = s.tx ∧ s.idlePoint.service = s.service := by
  dsimp only [State.idlePoint]
  all_goals simp

@[simp] theorem State.onReleased_keeps (s : State) :
    s.onReleased.pending = s.pending ∧ s.onReleased.clock = s.clock ∧ s.onReleased.running = s.running
      ∧ s.onReleased.pins = s.pins ∧ s.onReleased.dim = s.dim ∧ s.onReleased.conditions = s.conditions
      ∧ s.onReleased.sampler = s.sampler ∧ s.onReleased.rows = s.rows ∧ s.onReleased.levelling = s.levelling
      ∧ s.onReleased.fronts = s.fronts ∧ s.onReleased.ranks = s.ranks ∧ s.onReleased.rampClock = s.rampClock
      ∧ s.onReleased.occ = s.occ ∧ s.onReleased.switch = s.switch ∧ s.onReleased.line = s.line
      ∧ s.onReleased.rx = s.rx ∧ s.onReleased.tx = s.tx ∧ s.onReleased.service = s.service := by
  dsimp only [State.onReleased]
  repeat' split
  all_goals simp

@[simp] theorem State.openFrame_keeps (s : State) (b : Bool) :
    (s.openFrame b).pending = s.pending ∧ (s.openFrame b).clock = s.clock
      ∧ (s.openFrame b).running = s.running ∧ (s.openFrame b).pins = s.pins ∧ (s.openFrame b).dim = s.dim
      ∧ (s.openFrame b).startUp = s.startUp ∧ (s.openFrame b).conditions = s.conditions
      ∧ (s.openFrame b).sampler = s.sampler ∧ (s.openFrame b).rows = s.rows
      ∧ (s.openFrame b).levelling = s.levelling ∧ (s.openFrame b).fronts = s.fronts
      ∧ (s.openFrame b).ranks = s.ranks ∧ (s.openFrame b).rampClock = s.rampClock
      ∧ (s.openFrame b).occ = s.occ ∧ (s.openFrame b).switch = s.switch ∧ (s.openFrame b).line = s.line
      ∧ (s.openFrame b).tx = s.tx ∧ (s.openFrame b).service = s.service := by
  dsimp only [State.openFrame]
  all_goals simp

@[simp] theorem State.rxNext_keeps (s : State) (x : RxState) (f : RxFrame) :
    (s.rxNext x f).pending = s.pending ∧ (s.rxNext x f).clock = s.clock ∧ (s.rxNext x f).running = s.running
      ∧ (s.rxNext x f).pins = s.pins ∧ (s.rxNext x f).dim = s.dim ∧ (s.rxNext x f).startUp = s.startUp
      ∧ (s.rxNext x f).conditions = s.conditions ∧ (s.rxNext x f).sampler = s.sampler
      ∧ (s.rxNext x f).rows = s.rows ∧ (s.rxNext x f).levelling = s.levelling
      ∧ (s.rxNext x f).fronts = s.fronts ∧ (s.rxNext x f).ranks = s.ranks
      ∧ (s.rxNext x f).rampClock = s.rampClock ∧ (s.rxNext x f).occ = s.occ
      ∧ (s.rxNext x f).switch = s.switch ∧ (s.rxNext x f).line = s.line ∧ (s.rxNext x f).tx = s.tx
      ∧ (s.rxNext x f).service = s.service := by
  dsimp only [State.rxNext]
  all_goals simp

@[simp] theorem State.takeHeader_keeps (s : State) (f : RxFrame) (v : Byte) :
    (s.takeHeader f v).pending = s.pending ∧ (s.takeHeader f v).clock = s.clock
      ∧ (s.takeHeader f v).running = s.running ∧ (s.takeHeader f v).pins = s.pins
      ∧ (s.takeHeader f v).dim = s.dim ∧ (s.takeHeader f v).startUp = s.startUp
      ∧ (s.takeHeader f v).sampler = s.sampler ∧ (s.takeHeader f v).rows = s.rows
      ∧ (s.takeHeader f v).levelling = s.levelling ∧ (s.takeHeader f v).fronts = s.fronts
      ∧ (s.takeHeader f v).ranks = s.ranks ∧ (s.takeHeader f v).rampClock = s.rampClock
      ∧ (s.takeHeader f v).occ = s.occ ∧ (s.takeHeader f v).switch = s.switch
      ∧ (s.takeHeader f v).line = s.line ∧ (s.takeHeader f v).tx = s.tx
      ∧ (s.takeHeader f v).service = s.service := by
  dsimp only [State.takeHeader]
  repeat' split
  all_goals simp

@[simp] theorem State.takeBody_keeps (s : State) (f : RxFrame) (v : Byte) :
    (s.takeBody f v).pending = s.pending ∧ (s.takeBody f v).clock = s.clock
      ∧ (s.takeBody f v).running = s.running ∧ (s.takeBody f v).pins = s.pins ∧ (s.takeBody f v).dim = s.dim
      ∧ (s.takeBody f v).startUp = s.startUp ∧ (s.takeBody f v).conditions = s.conditions
      ∧ (s.takeBody f v).sampler = s.sampler ∧ (s.takeBody f v).rows = s.rows
      ∧ (s.takeBody f v).levelling = s.levelling ∧ (s.takeBody f v).fronts = s.fronts
      ∧ (s.takeBody f v).ranks = s.ranks ∧ (s.takeBody f v).rampClock = s.rampClock
      ∧ (s.takeBody f v).occ = s.occ ∧ (s.takeBody f v).switch = s.switch ∧ (s.takeBody f v).line = s.line
      ∧ (s.takeBody f v).tx = s.tx ∧ (s.takeBody f v).service = s.service := by
  dsimp only [State.takeBody]
  repeat' split
  all_goals simp

@[simp] theorem State.acceptAssembled_keeps (s : State) (f : RxFrame) :
    (s.acceptAssembled f).pending = s.pending ∧ (s.acceptAssembled f).clock = s.clock
      ∧ (s.acceptAssembled f).running = s.running ∧ (s.acceptAssembled f).pins = s.pins
      ∧ (s.acceptAssembled f).dim = s.dim ∧ (s.acceptAssembled f).sampler = s.sampler
      ∧ (s.acceptAssembled f).rampClock = s.rampClock ∧ (s.acceptAssembled f).occ = s.occ := by
  dsimp only [State.acceptAssembled]
  repeat' split
  all_goals simp

@[simp] theorem State.takeCheck_keeps (s : State) (f : RxFrame) (v : Byte) :
    (s.takeCheck f v).pending = s.pending ∧ (s.takeCheck f v).clock = s.clock
      ∧ (s.takeCheck f v).running = s.running ∧ (s.takeCheck f v).pins = s.pins
      ∧ (s.takeCheck f v).dim = s.dim ∧ (s.takeCheck f v).sampler = s.sampler
      ∧ (s.takeCheck f v).rampClock = s.rampClock ∧ (s.takeCheck f v).occ = s.occ := by
  dsimp only [State.takeCheck]
  repeat' split
  all_goals simp

@[simp] theorem State.takeChar_keeps (s : State) (b : Bool) (j : Judgement) :
    (s.takeChar b j).pending = s.pending ∧ (s.takeChar b j).clock = s.clock
      ∧ (s.takeChar b j).running = s.running ∧ (s.takeChar b j).pins = s.pins ∧ (s.takeChar b j).dim = s.dim
      ∧ (s.takeChar b j).sampler = s.sampler ∧ (s.takeChar b j).rampClock = s.rampClock
      ∧ (s.takeChar b j).occ = s.occ := by
  dsimp only [State.takeChar]
  repeat' split
  all_goals simp

@[simp] theorem State.charEnds_keeps (s : State) (c : RxChar) :
    (s.charEnds c).pending = s.pending ∧ (s.charEnds c).clock = s.clock ∧ (s.charEnds c).running = s.running
      ∧ (s.charEnds c).pins = s.pins ∧ (s.charEnds c).dim = s.dim ∧ (s.charEnds c).sampler = s.sampler
      ∧ (s.charEnds c).rampClock = s.rampClock ∧ (s.charEnds c).occ = s.occ := by
  dsimp only [State.charEnds]
  repeat' split
  all_goals simp

end Sys2Proof.Machine
end

