-- ==== Sys2Proof/Tests/Slice0.lean ====
section
/-! SUPPORT. The model's own tests: the smoke test of WellFormed, steps and figures of the manual's worked
sequences, and for each statement with hypotheses a witness that meets them together (one for each
clause, at the edge of its range where it has one). -/

namespace Sys2Proof.Tests

open Sys2Proof Sys2Proof.Machine

/-! ## WellFormed: an ill-formed term for each check -/

def body49 : List Byte := List.replicate 49 0#8

def badRequests : List Request :=
  [{ target := 64#8, tag := 0#8, params := [] }, { target := 10#8, tag := 0#8, params := [0, 0, 0, 0, 0] }]

theorem test_wf_image_length : Instr.wf (.imageReadComplete (List.replicate 63 0#8)) = false := by decide
theorem test_wf_entry_positions :
    Instr.wf (.freshnessStale 63#6) = false ∧ Instr.wf (.freshnessLost 63#6) = false := by decide
theorem test_wf_station_positions :
    Instr.wf (.fullReport 63#6 0 [] 0) = false ∧ Instr.wf (.deltaReport 63#6 0 [] 0) = false
      ∧ Instr.wf (.frontNotice 63#6 [] 0) = false ∧ Instr.wf (.serviceResultHeard 63#6 0) = false := by
  decide
theorem test_wf_body_lengths :
    Instr.wf (.fullReport 9#6 0 body49 0) = false ∧ Instr.wf (.deltaReport 9#6 0 body49 0) = false
      ∧ Instr.wf (.frontNotice 9#6 body49 0) = false := by decide
theorem test_wf_requests :
    badRequests.all (fun q =>
      [Instr.queryState q, .hold q, .release q, .step q, .runToMatch q, .forceLevel q, .forceCancel q,
        .snapshotLoad q, .snapshotShift q, .readEntry q, .readFronts q, .clearConditions q, .restart q 0,
        .unknownServiceRequest 14#8 q].all fun c => !c.wf) = true := by decide
theorem test_wf_known_kind :
    Instr.wf (.unknownServiceRequest 13#8 { target := 10#8, tag := 0#8, params := [] }) = false := by decide
theorem test_wf_accepts :
    Instr.wf (.fullReport 62#6 0 (List.replicate 48 0#8) 0) = true
      ∧ Instr.wf (.unknownServiceRequest 14#8 { target := 63#8, tag := 0#8, params := [0, 0, 0, 0] }) = true :=
  by decide

/-! ## Small states -/

/-- A present rank lit at the default fallback level. -/
def lit : RankUnit :=
  { claims := { noClaims with fallback := some { value := 700, rule := { up := 200, down := 50 } } }
    inService := some .fallback
    ramp := { rampPowerUp with output := 700, target := 700, rule := some { up := 200, down := 50 } } }

/-- A station at position 10 in LISTEN with the default image, the line IDLE, every rank lit. -/
def listening : State :=
  { State.reset with
    startUp :=
      { startUpPowerUp with
        mode := .listen, position := 10, image := some defaultImage, cause := some .noMemory
        listen := some 0 }
    conditions := 0x1000#16
    levelling := { levellingPowerUp with tick := some 0, published := PerRank.const (some 700) }
    ranks := PerRank.const lit
    switch := { switchPowerUp with pressed := false }
    line := { linePowerUp false with state := .idle, recessiveTime := some 0 } }

/-- The same station in ACTIVE, with nothing queued. -/
def active : State :=
  { listening with
    startUp := { listening.startUp with mode := .active, listen := none }
    tx := { txPowerUp with report := some 0 } }

/-- The same station in MUTE. -/
def muted : State :=
  { listening with startUp := { listening.startUp with mode := .mute, listen := none } }

/-- The active station HELD on a request. -/
def heldStation : State :=
  State.freezeRamps { active with service := { servicePowerUp with hold := .held, cause := some .request } }

def marker (k : EntryKind) (n : Nat) : QueueEntry :=
  { kind := k, entryTime := 0, attempts := n, inFlight := true }

/-- The active station with one entry in flight, the last bit of its frame of zeros on ROW and not yet read
back. -/
def sending (k : EntryKind) (n : Nat) (report : Option Published) (c : Contention) : State :=
  { active with
    tx :=
      { active.tx with
        queue := [marker k n], contention := c
        flight := some
          { start := 0, chars := List.replicate 7 0#8, driven := 77, read := 76, wrong := false, seq := 1
            report := report, asFull := decide (k = .full) } } }

/-- The same with `n + 1` bits of its frame on ROW, the last of them not yet read back. -/
def atBit (n : Nat) (s : State) : State :=
  { s with tx := { s.tx with flight := s.tx.flight.map fun f => { f with driven := n + 1, read := n } } }

/-- The same with another peer pulling ROW. -/
def disturbed (s : State) : State :=
  { s with line := { s.line with pulled := true, state := .busy, recessiveTime := none } }

def ask (target : Byte) (params : List Byte) : Request := { target := target, tag := 7#8, params := params }

/-- A published record of a peer, whose goal A is 450 and which wants position 10. -/
def peerRecord : Published :=
  { mode := .active, reading := 300, readingState := .own, goal := ⟨some 450, some 500, none⟩
    occupancy := .occupied, override := false, held := false, conditions := 0, want := [10] }

def peerDelta : Delta := { fields := [.goalA (some 425)], want := [21] }

def peerNotice : Notice :=
  { origin := 12, serial := 0, direction := .unknown, magnitude := 40, pace := none
    sightings := [{ pos := 12, age := 9 }] }

/-- The active station with a FRESH neighbour below whose record is `peerRecord`. -/
def withNeighbour : State :=
  { active with
    rows :=
      { active.rows with
        entries := active.rows.entries.set 9
          { status := .fresh, baseValid := true, lastSeq := 6, freshness := some 0, record := peerRecord } } }

def front (st : FrontState) : FrontRecord :=
  { origin := 12, serial := 0, direction := .towardLower, magnitude := 40
    sightings := [{ pos := 11, time := 1510#32 }, { pos := 12, time := 20#32 }], pace := some 1490
    arrival := some 3000#32, state := st, lastUpdate := 1600#32, ownTime := none
    preRaise := PerRank.const 0, missedTime := none }

/-- The active station with one front record. -/
def withFront (f : FrontRecord) : State :=
  { active with fronts := { active.fronts with table := [f] } }

/-- The active station with the wall switch in a press state. -/
def pressed (p : Press) (level : Option Nat) : State :=
  { active with
    switch :=
      { switchPowerUp with
        pressed := true, debounce := some 0, press := p, pressTimer := some 0, level := level
        travel := none, levelStep := some 0, override := some 0 } }

/-- A frame that has just opened. -/
def opened : RxFrame :=
  { access := none, kindSeq := none, length := none, body := [], crc := 0xFFFF#16, check := none
    driving := false, touched := false }

/-! ## Figures of the manual's worked sequences -/

def goodSample (v : Nat) : Sample := { value := v, code := v, range := .low, quality := .good }

/-- The sampler of the upward range switch before arrival k1 (01, worked sequence). -/
def morning : Sampler :=
  { samplerPowerUp with
    conversion := some 0, converting := some .low, taken := 64
    ring := [goodSample 3960, goodSample 3930, goodSample 3900] }

theorem test_range_switch_k1 : (morning.arrive .low (.code 3980#12)).fastMean = some 3942 := by decide

theorem test_range_switch_k3 :
    let p := ((morning.arrive .low (.code 3980#12)).arrive .low .fullScale).arrive .low .fullScale
    p.fastMean = some 4032 ∧ p.range = .high ∧ p.settle = 1 ∧ p.saturatedRun = 0 := by decide

/-- S31's raw levels at 190 du (03, worked sequence, event 1). -/
theorem test_raw_levels_of_S31 :
    rawLevel 600 { factor := 1000, full := 800, minimum := 100, cutOff := true } 190 = 513
      ∧ rawLevel 600 { factor := 500, full := 700, minimum := 100, cutOff := false } 190 = 722
      ∧ rawLevel 600 { factor := 200, full := 600, minimum := 150, cutOff := false } 190 = 937
      ∧ rawLevel 600 { factor := 1000, full := 800, minimum := 100, cutOff := true } 700 = 0 := by decide

/-- S31's goals at event 1: A moves, B and C stay inside the band of 20. -/
theorem test_goals_of_S31 :
    bandedGoal 20 100 332 513 (some 482) = 513 ∧ bandedGoal 20 100 555 722 (some 705) = 705
      ∧ bandedGoal 20 150 779 937 (some 929) = 929 := by decide

/-- S14's record after notice N2 (04, worked sequence), with the own position below instead of above. -/
theorem test_front_heads_here : (front .watching).arrivalAt 10 = some 3000#32 := by decide

/-- Rank C's ramp through steps 1 to 4, the FRONT hand-off and step 5 (05, worked sequence). -/
theorem test_ramp_sequence :
    let g := { rampPowerUp with
      output := 300, target := 400, rule := some { up := 130, down := 60 }, state := .rising }
    let g4 := g.move.move.move.move
    let g5 := (g4.handOff 460 { up := 130, down := 60 }).move
    let g7 := (g5.move.handOff 0 { up := 1000, down := 1000 }).move
    g4.output = 310 ∧ g4.acc = 20 ∧ g5.output = 313 ∧ g5.acc = 0 ∧ g7.output = 295
      ∧ g7.state = .falling := by decide

/-- The delta of S20 (08, worked example): body, length, and the malformed bodies it lists. -/
theorem test_delta_on_the_line :
    deltaBody peerDelta = [1, 4, 1, 169, 1, 21] ∧ readDelta (deltaBody peerDelta) = some peerDelta
      ∧ readDelta [1, 4, 4, 176, 1, 21] = none ∧ readDelta [2, 4, 1, 169, 4, 1, 169, 1, 21] = none
      ∧ readDelta [1, 4, 1, 169, 2, 21] = none ∧ readDelta [0, 1, 21] = none := by decide

/-- A chain delta reaches the station that its want list names: the entry moves and a FULL falls due. -/
theorem test_delta_names_own_position :
    ∃ t, exec (.deltaReport 9#6 7#4 (deltaBody { peerDelta with want := [10] }) 10#6) withNeighbour = .next t
      ∧ (t.rows.entry 9).record.goal.a = some 425 ∧ t.tx.queue.map QueueEntry.kind = [.full] :=
  ⟨_, rfl, by decide⟩

/-- A force set during a hold is not taken up before the hold ends (05, worked sequence). -/
theorem test_force_in_a_hold :
    ∃ t, exec (.forceLevel (ask 63 [1, 3, 32])) heldStation = .next t
      ∧ t.ranks.a.claims.force.map Claim.value = some 800 ∧ t.ranks.a.inService = some .fallback
      ∧ t.ranks.a.ramp.state = .frozen ∧ t.service.force = some 0 := ⟨_, rfl, by decide⟩

/-- Right after reset the first command waiting is the one that runs. -/
theorem test_step_from_reset :
    ∃ t, step { State.reset with pending := [.configPollTimeout] } = .next t ∧ t.mode = .listen
      ∧ t.clock = 19200 ∧ t.latched .configDefaulted = true ∧ t.pending = [] := ⟨_, rfl, by decide⟩

/-- An empty queue lets one clock unit pass. -/
theorem test_idle_step : ∃ t, step State.reset = .next t ∧ t.clock = 1 := ⟨_, rfl, by decide⟩

/-- The restart of a unicast RESTART answered BAD_PARAMETER never begins (log 35). -/
theorem test_bad_restart :
    ∃ t, exec (.restart (ask 10 [0]) 10#6) active = .next t ∧ t.service.restartWaits = false
      ∧ t.service.phase = .resultPending := ⟨_, rfl, by decide⟩

/-- An attempt that has just started: the frame of a FULL marker on the IDLE line. -/
def begun : State :=
  { active with
    line := { active.line with recessiveTime := some 0 }
    rx := { active.rx with afterIdle := true }
    tx := { active.tx with queue := [{ marker .full 0 with inFlight := false }], contention := .waitIdle } }

/-- The station's own start bit pulls ROW low: the line is BUSY and a character begins (R124 to R126). -/
theorem test_own_start_bit_on_ROW :
    ∃ t, exec .attemptStart begun = .next t ∧ t.rowLow = true ∧ t.line.pulled = false
      ∧ t.line.state = .busy ∧ t.line.recessiveTime = none
      ∧ t.rx.char = some { start := 0, afterIdle := true, samples := [] } := ⟨_, rfl, by decide⟩

/-- The station reads its own sync character back: eleven samples of ROW, an own frame opened, and the
start bit of the next character on ROW (R125, R129). -/
theorem test_own_sync_character_reads_back :
    ∃ t u, exec .attemptStart begun = .next t
      ∧ exec (.characterEnd (charBits sync) 10#6) t = .next u ∧ u.clock = 110
      ∧ u.rx.state = .header ∧ u.rx.frame.map RxFrame.driving = some true
      ∧ u.rx.frame.map RxFrame.touched = some true ∧ u.rowLow = true
      ∧ u.rx.char = some { start := 110, afterIdle := false, samples := [] } := ⟨_, _, rfl, rfl, by decide⟩

/-- A pulse shorter than half a bit time is a glitch, and ROW low for a whole character a break (R125). -/
theorem test_glitch_and_break :
    (∃ t u v, exec .transitionToDominant active = .next t
        ∧ exec .returnToRecessive { t with clock := 4 } = .next u
        ∧ exec (.characterEnd 1#11 10#6) u = .next v ∧ v.clock = 5 ∧ v.rx.char = none)
      ∧ ∃ t u, exec .transitionToDominant
          { active with rx := { active.rx with frame := some opened, state := .header } } = .next t
        ∧ exec (.characterEnd 0#11 10#6) t = .next u ∧ u.clock = 110 ∧ u.rx.frame = none
        ∧ u.latched .rxFrameError = true ∧ u.line.dominantTime = some 0 :=
  ⟨⟨_, _, _, rfl, rfl, rfl, by decide⟩, _, _, rfl, rfl, by decide⟩

/-! ## Witnesses: the block, start-up -/

theorem witness_StepRunsFrontCommand :
    ({ active with pending := [.idlePoint] } : State).pending = .idlePoint :: [] := rfl

theorem witness_EmptyQueueOnlyPassesTime : active.pending = [] := rfl

theorem witness_EveryCommandAnswersAndKeepsQueue :
    (State.inReset [] Pins.atReset false).running = false ∧ Instr.idlePoint ≠ .resetNAssert
      ∧ (∀ r d w w' f, Instr.idlePoint ≠ .powerUp r d w w' f)
      ∧ ∀ d f, Instr.idlePoint ≠ .resetNRelease d f :=
  ⟨rfl, by decide, by intros; exact Instr.noConfusion, by intros; exact Instr.noConfusion⟩

/-- A configuration read in a phase, the last attempt at an instant. -/
def reading (p : ReadPhase) (last : Nat) : State :=
  { State.reset with startUp := { State.reset.startUp with read := p, lastAttempt := last } }

theorem witness_ConfigurationReadTriesAgain_waiting :
    (reading .waiting 19007).running = true ∧ (reading .waiting 19007).startUp.poll = some 0
      ∧ (reading .waiting 19007).startUp.read = .waiting
      ∧ max (reading .waiting 19007).clock ((reading .waiting 19007).startUp.lastAttempt + 192) < 0 + 19200 := by
  decide

theorem witness_ConfigurationReadTriesAgain_stalled :
    (reading .stalled 19199).running = true ∧ (reading .stalled 19199).startUp.poll = some 0
      ∧ (reading .stalled 19199).startUp.read = .stalled := by decide

theorem witness_ConfigurationReadTriesAgain_reading :
    (reading .reading 17279).running = true ∧ (reading .reading 17279).startUp.poll = some 0
      ∧ (reading .reading 17279).startUp.read = .reading
      ∧ max (reading .reading 17279).clock ((reading .reading 17279).startUp.lastAttempt + 1920) < 0 + 19200 := by
  decide

/-- The default image as its 64 bytes, with their CRC (R188). -/
def imageBytes : List Byte :=
  [90, 60, 1, 1, 244, 3, 32, 2, 88, 0, 100, 1, 1, 144, 2, 88, 0, 100, 0, 0, 150, 2, 88, 0, 100, 0, 7,
    0, 150, 10, 0, 200, 0, 50, 0, 20, 2, 188, 0, 100, 1, 44, 2, 32, 1, 35, 5, 220, 10, 0, 0, 3, 15, 0,
    2, 0, 0, 0, 0, 0, 0, 0] ++ twoBytes imageCrc
where
  imageCrc : Nat :=
    (crcOf
      [90, 60, 1, 1, 244, 3, 32, 2, 88, 0, 100, 1, 1, 144, 2, 88, 0, 100, 0, 0, 150, 2, 88, 0, 100, 0, 7,
        0, 150, 10, 0, 200, 0, 50, 0, 20, 2, 188, 0, 100, 1, 44, 2, 32, 1, 35, 5, 220, 10, 0, 0, 3, 15,
        0, 2, 0, 0, 0, 0, 0, 0, 0]).toNat

set_option maxRecDepth 20000 in
theorem witness_ConfigEnds_image :
    (reading .reading 0).running = true ∧ (reading .reading 0).service.hold = .running
      ∧ (reading .reading 0).startUp.poll = some 0 ∧ (reading .reading 0).startUp.read = .reading
      ∧ readImage imageBytes = some defaultImage := by decide

theorem witness_ConfigEnds_ranks : ∀ r : Rank, ((reading .reading 0).ranks.get r).Idle := by
  intro r; cases r <;> decide

theorem witness_ConfigEnds_badImage :
    (reading .reading 0).startUp.read = .reading ∧ readImage [] = none := by decide

theorem witness_ConfigEnds_noImage :
    (reading .waiting 0).startUp.read = .waiting ∧ (reading .stalled 0).startUp.read = .stalled
      ∧ (reading .waiting 0).startUp.poll = some 0 := by decide

theorem witness_ConfigEnds_stall :
    (reading .reading 17280).startUp.read = .reading
      ∧ 0 + 19200 ≤ max (reading .reading 17280).clock ((reading .reading 17280).startUp.lastAttempt + 1920) := by
  decide

theorem witness_ListenEndsInActive :
    listening.running = true ∧ listening.mode = .listen ∧ listening.startUp.listen = some 0
      ∧ listening.tx.queue = [] ∧ listening.tx.contention = .txIdle ∧ listening.tx.parting = false := by
  decide

/-! ## Witnesses: sampler -/

theorem witness_SampleQuality_switch_up :
    (({ morning with saturatedRun := 1 } : Sampler).sampleOf .low .fullScale).quality = .saturated
      ∧ (morning.sampleOf .low .fullScale).quality = .saturated ∧ morning.saturatedRun = 0 := by decide

theorem witness_SampleQuality_switch_down :
    (morning.sampleOf .high (.code 49#12)).quality = .good
      ∧ (morning.sampleOf .high (.code 49#12)).value < 400
      ∧ 7 ≤ ({ morning with lowRun := 7 } : Sampler).lowRun ∧ ({ morning with lowRun := 6 } : Sampler).lowRun < 7 := by
  decide

theorem witness_SampleQuality_neither :
    (morning.sampleOf .high (.code 50#12)).quality = .good
      ∧ ¬((morning.sampleOf .high (.code 50#12)).value < 400) := by decide

theorem witness_SampleArrivalStoresSample :
    active.running = true ∧ active.sampler.converting = some .low ∧ active.sampler.conversion = some 0 := by
  decide

theorem witness_ConversionsStartAndPresenceIsPolled :
    active.running = true ∧ active.sampler.conversion = some 0 ∧ active.sampler.pollDue = true := by decide

theorem witness_WindowRecord :
    morning.ring.take 4 = morning.ring
      ∧ morning.ring.filter (fun x => x.quality = .good ∨ x.quality = .saturated) = morning.ring := by decide

/-! ## Witnesses: row table -/

theorem witness_FullReportReplacesEntry :
    active.Hears ∧ (11#6).toNat ≠ active.own ∧ 11#6 ≠ 63#6
      ∧ readFull (fullBody peerRecord) = some peerRecord := by decide

theorem witness_DeltaReport_applied :
    withNeighbour.Hears ∧ (9#6).toNat ≠ withNeighbour.own ∧ 9#6 ≠ 63#6
      ∧ readDelta (deltaBody peerDelta) = some peerDelta
      ∧ (withNeighbour.rows.entry (9#6).toNat).baseValid = true
      ∧ (7#4).toNat = ((withNeighbour.rows.entry (9#6).toNat).lastSeq + 1) % 16 := by decide

theorem witness_DeltaReport_gap :
    ¬((withNeighbour.rows.entry (9#6).toNat).baseValid = true
      ∧ (8#4).toNat = ((withNeighbour.rows.entry (9#6).toNat).lastSeq + 1) % 16) := by decide

theorem witness_MalformedBodyIsDropped :
    active.Hears ∧ (11#6).toNat ≠ active.own ∧ 11#6 ≠ 63#6 ∧ readFull [] = none ∧ readDelta [] = none
      ∧ readNotice [] = none ∧ 63 < (ask 64 []).target.toNat ∧ (ask 64 []).params.length ≤ 45
      ∧ 4 < (ask 10 [0, 0, 0, 0, 0]).params.length ∧ (ask 10 [0, 0, 0, 0, 0]).params.length ≤ 45
      ∧ 45 < (ask 10 (body49.drop 3)).params.length
      ∧ 48 < body49.length ∧ active.touchedFrame = false := by decide

theorem witness_MalformedBodyIsDropped_unheard :
    State.reset.running = true ∧ State.reset.mode = .config ∧ State.reset.line.state ≠ .stuck
      ∧ State.reset.tx.flight = none
      ∧ ({ muted with line := { muted.line with state := .stuck } } : State).line.state = .stuck
      ∧ ({ listening with startUp := { listening.startUp with mode := .island } } : State).mode = .island := by
  decide

theorem witness_DuplicatePosition :
    active.Hears ∧ listening.Hears ∧ muted.Hears ∧ (10#6).toNat = active.own ∧ 10#6 ≠ 63#6
      ∧ active.ResultInv ∧ listening.ResultInv ∧ muted.ResultInv ∧ active.mode = .active
      ∧ active.tx.parting = false ∧ listening.mode = .listen ∧ muted.mode = .mute := by decide

/-- The service engine with a result on its way to the line. -/
def owing (restarts : Bool) : Service :=
  { servicePowerUp with
    phase := .resultPending, pending := some { kind := 13#8, tag := 7#8, restarts := restarts } }

/-- The active station with a result waiting in its queue in DEFER. -/
def withResult (restarts : Bool) : State :=
  { active with
    service := owing restarts
    tx := { active.tx with queue := [{ marker (.result []) 0 with inFlight := false }], contention := .defer } }

theorem witness_DuplicatePosition_result :
    (withResult true).Hears ∧ (withResult true).ResultInv ∧ (withResult true).service.phase = .resultPending
      ∧ (withResult true).service.restartWaits = true ∧ (withResult false).ResultInv
      ∧ (withResult false).service.phase = .resultPending
      ∧ (withResult false).service.restartWaits = false := by decide

theorem witness_EntriesAge_stale :
    withNeighbour.running = true ∧ (withNeighbour.rows.entry (9#6).toNat).freshness = some 0
      ∧ (withNeighbour.rows.entry (9#6).toNat).status = .fresh := by decide

/-- The neighbour of `withNeighbour` gone STALE. -/
def withStale : State :=
  { active with
    rows :=
      { active.rows with
        entries := active.rows.entries.set 9
          { status := .stale, baseValid := true, lastSeq := 6, freshness := some 0, record := peerRecord } } }

theorem witness_EntriesAge_lost :
    withStale.running = true ∧ (withStale.rows.entry (9#6).toNat).freshness = some 0
      ∧ (withStale.rows.entry (9#6).toNat).status = .stale := by decide

/-! ## Witnesses: levelling -/

theorem witness_RawLevel :
    let p : RankParams := { factor := 1000, full := 800, minimum := 100, cutOff := true }
    1 ≤ p.full ∧ need 600 p 600 = 0 ∧ p.cutOff = true ∧ 0 < need 600 p 599
      ∧ need 600 p 599 * 1000 ≤ 2 * p.full ∧ ∀ k < 2, k * p.full < need 600 p 599 * 1000 := by decide

theorem witness_LevellingTick_reading :
    withNeighbour.running = true ∧ withNeighbour.levelling.tick = some 0
      ∧ withNeighbour.service.skipsTick = false ∧ withNeighbour.PhaseInv
      ∧ chooseReading (withNeighbour.sampler.formWindow withNeighbour.img.window) withNeighbour.neighbours
          = (300, .borrowed) := by decide

theorem witness_BlindTick :
    active.running = true ∧ active.levelling.tick = some 0 ∧ active.service.skipsTick = false
      ∧ active.PhaseInv
      ∧ chooseReading (active.sampler.formWindow active.img.window) active.neighbours = (0, .unavailable)
      ∧ heldStation.running = true ∧ heldStation.levelling.tick = some 0
      ∧ heldStation.service.skipsTick = true := by decide

/-- A neighbour's published record that names its reading `x` its own. -/
def ownAt (x : Nat) : Published := { peerRecord with reading := x, readingState := .own }

theorem witness_ReadingChoice :
    let w : WindowRecord := { size := 32, usable := 32, mean := some 300, valid := true, worst := some .good }
    let v : WindowRecord := { size := 32, usable := 0, mean := none, valid := false, worst := none }
    w.valid = true ∧ w.mean = some 300 ∧ v.valid = false
      ∧ [ownAt 301, { peerRecord with readingState := .borrowed }].filter (fun y => y.readingState = .own)
          = [ownAt 301]
      ∧ [ownAt 301, ownAt 300].filter (fun y => y.readingState = .own) = [ownAt 301, ownAt 300]
      ∧ chooseReading v [ownAt 301, ownAt 300] = (300, .borrowed)
      ∧ (∀ y ∈ [{ peerRecord with readingState := .borrowed }], y.readingState ≠ .own) := by decide

theorem witness_GoalsKeepWithinStep :
    (∃ t, exec .levellingTick withNeighbour = .next t) ∧ withNeighbour.present .a = true
      ∧ peerRecord ∈ withNeighbour.neighbours ∧ peerRecord.readingState ≠ .unavailable
      ∧ peerRecord.goal.get .a = some 450 := ⟨⟨_, rfl⟩, by decide⟩

/-! ## Witnesses: fronts -/

/-- The active station in daylight that falls: a valid window of 1000 du and a fast mean at the threshold. -/
def dimming (armed : Bool) : State :=
  { active with
    sampler :=
      { active.sampler with
        taken := 3, ring := [goodSample 650, goodSample 650, goodSample 650]
        window := { size := 32, usable := 32, mean := some 1000, valid := true, worst := some .good } }
    fronts := { active.fronts with armed := armed } }

theorem witness_Darkening_fires :
    ∃ t, exec (.sampleArrival (.code 650#12)) (dimming true) = .next t
      ∧ darkAgainst (dimming true).sampler.window (dimming true).img.theta t.sampler.fastMean = true
      ∧ t.fronts.fastActive = true := ⟨_, rfl, by decide⟩

theorem witness_Darkening_places :
    (dimming true).fronts.armed = true ∧ (dimming true).sampler.window.mean = some 1000
      ∧ ∃ t, exec (.sampleArrival (.code 650#12)) (dimming true) = .next t ∧ t.sampler.fastMean = some 650
        ∧ t.tx.queue.map QueueEntry.kind = [.notice 10 0] := ⟨rfl, rfl, _, rfl, by decide⟩

theorem witness_Darkening_quiet :
    ∃ t, exec (.sampleArrival (.code 654#12)) (dimming true) = .next t
      ∧ darkAgainst (dimming true).sampler.window (dimming true).img.theta t.sampler.fastMean = false :=
  ⟨_, rfl, by decide⟩

theorem witness_OwnSighting_joins :
    let f := { front .watching with
      direction := .unknown, sightings := [{ pos := 12, time := 0#32 }], arrival := none }
    (withFront f).matchedFront = some f := by decide

/-- Four records that may not give way. -/
def passedTable : List FrontRecord :=
  [{ front .passed with origin := 1 }, { front .passed with origin := 2 }, { front .passed with origin := 3 },
    { front .preRaise with origin := 4 }]

theorem witness_OwnSighting_starts_or_not :
    active.matchedFront = none
      ∧ makeRoom (removeFront active.fronts.table active.own active.fronts.serial) = some ([], false)
      ∧ ({ active with fronts := { active.fronts with table := passedTable } } : State).matchedFront = none
      ∧ makeRoom (removeFront passedTable active.own active.fronts.serial) = none
      ∧ 4 ≤ passedTable.length
      ∧ passedTable.all (fun f => f.state = .preRaise ∨ f.state = .passed) = true
      ∧ (front .missed :: passedTable).all (fun f => f.state = .preRaise ∨ f.state = .passed) = false := by
  decide

/-- A full table with two WATCHING records of equal and oldest update. -/
def crowded : List FrontRecord :=
  [{ front .approaching with origin := 1 }, { front .watching with origin := 2 },
    { front .watching with origin := 3, lastUpdate := 1599#32 },
    { front .watching with origin := 4, lastUpdate := 1599#32 }]

theorem witness_OwnSighting_evicts :
    (victim crowded).map FrontRecord.origin = some 3 ∧ 4 ≤ crowded.length
      ∧ crowded.Pairwise (fun g h => g.idBefore h = true)
      ∧ crowded.map FrontRecord.arrival = List.replicate 4 (some 3000#32)
      ∧ crowded.map FrontRecord.lastUpdate = [1600#32, 1600#32, 1599#32, 1599#32] := by decide

theorem witness_OwnSighting_times :
    since 3000#32 1600#32 = 1400 ∧ since 1600#32 1600#32 = 0 ∧ since 1600#32 1599#32 = 1 := by decide

theorem witness_OwnSighting_evicts_approaching :
    let t := [{ front .approaching with origin := 1 },
      { front .approaching with origin := 2, arrival := some 3001#32 },
      { front .approaching with origin := 3, arrival := some 3001#32 }, { front .passed with origin := 4 }]
    victim t = some { front .approaching with origin := 2, arrival := some 3001#32 } := by decide

theorem witness_OwnSighting_matches :
    (front .approaching).matchesOwn 10 1000#32 = true ∧ (front .approaching).matchesOwn 10 999#32 = false
      ∧ (front .approaching).matchesOwn 10 5000#32 = true ∧ (front .approaching).matchesOwn 10 5001#32 = false
      ∧ ({ front .watching with direction := .unknown } : FrontRecord).matchesOwn 10 6509#32 = true
      ∧ ({ front .watching with direction := .unknown } : FrontRecord).matchesOwn 10 6510#32 = false := by
  decide

/-- A sighting that stands between those of `front`. -/
def between : Sighting := { pos := 9, time := 700#32 }

theorem witness_OwnSighting_list :
    (front .watching).sightings.filter (fun y => y.pos ≠ between.pos)
        = [{ pos := 11, time := 1510#32 }] ++ [{ pos := 12, time := 20#32 }]
      ∧ 0 ≤ since 1510#32 between.time ∧ since 20#32 between.time < 0
      ∧ (passedTable.take 3).length < 4 ∧ passedTable.Pairwise (fun g h => g.idBefore h = true) := by decide

def frontId : FrontId := { origin := 12#6, serial := 0#4 }

theorem witness_FrontTimes_timers :
    ({ active with fronts := { active.fronts with rearm := some 0, fastTimer := some 0 } } : State).fronts.rearm
        = some 0
      ∧ ({ active with fronts := { active.fronts with rearm := some 0, fastTimer := some 0 } } : State).fronts.fastTimer
        = some 0 := by decide

theorem witness_FrontTimes_records :
    (withFront (front .approaching)).front frontId = some (front .approaching)
      ∧ (withFront (front .preRaise)).front frontId = some (front .preRaise)
      ∧ (front .approaching).arrival = some 3000#32
      ∧ (withFront (front .watching)).front frontId = some (front .watching)
      ∧ (front .watching).lastUpdate + 30000#32 = 31600#32 := by decide

theorem witness_FrontTimes_removal :
    ({ front .passed with ownTime := some 0#32 } : FrontRecord).ownTime.map
        (· + BitVec.ofNat 32 (active.img.frontHold * 1000)) = some 10000#32
      ∧ ({ front .missed with missedTime := some 0#32 } : FrontRecord).missedTime.map (· + 30000#32)
        = some 30000#32 := by decide

/-- The FRONT value of a record in PRE_RAISE over a base claim, and none without a pre-raise or fast track. -/
theorem witness_FrontTimes_value :
    let s := withFront { front .preRaise with preRaise := PerRank.const 650 }
    let base (n : Nat) : Claims :=
      { noClaims with levelling := some { value := n, rule := { up := 200, down := 50 } } }
    s.frontValue .a (base 600) = some 650 ∧ s.frontValue .b (base 700) = some 700
      ∧ (withFront (front .watching)).frontValue .a (base 600) = none
      ∧ ({ active with fronts := { active.fronts with fastActive := true, fastValue := PerRank.const 800 } }
          : State).frontValue .c lit.claims = some 800 := by decide

theorem witness_FrontNotice :
    active.Hears ∧ (11#6).toNat ≠ active.own ∧ 11#6 ≠ 63#6
      ∧ readNotice (noticeBody peerNotice) = some peerNotice
      ∧ findFront (withFront (front .watching)).fronts.table 12 0 = some (front .watching)
      ∧ findFront active.fronts.table 12 0 = none ∧ makeRoom active.fronts.table = some ([], false)
      ∧ findFront passedTable 12 0 = none ∧ makeRoom passedTable = none := by decide

theorem witness_FrontNotice_merge :
    (courseOf ((sightingsOf 2000#32 peerNotice).foldl mergeSighting [{ pos := 12, time := 20#32 }]) = none
        ∧ ({ front .watching with direction := .unknown } : FrontRecord).direction = .unknown)
      ∧ (front .watching).sightings = [{ pos := 11, time := 1510#32 }] ++ [{ pos := 12, time := 20#32 }]
      ∧ (∀ y ∈ (front .watching).sightings, y.pos ≠ between.pos)
      ∧ (front .watching).sightings.find? (fun z => z.pos = 12) = some { pos := 12, time := 20#32 }
      ∧ 0 < since 21#32 20#32 ∧ ¬(0 < since 20#32 20#32)
      ∧ ((front .watching).recourse.restate 10 1500 1500#32).state = .preRaise
      ∧ ((front .watching).recourse.restate 10 1500 1499#32).state = .approaching := by decide

theorem witness_Course :
    (front .watching).sightings = { pos := 11, time := 1510#32 } :: { pos := 12, time := 20#32 } :: []
      ∧ 11 ≠ 12 ∧ 0 < since 1510#32 20#32
      ∧ 1490 = max 1 ((since 1510#32 20#32).toNat / (max 11 12 - min 11 12)) ∧ ¬(0 < since 20#32 20#32) := by
  decide

theorem witness_Arrival :
    (front .watching).direction = .towardLower ∧ 10 < 11 ∧ (front .watching).pace = some 1490
      ∧ (∀ y ∈ (front .watching).sightings, y.pos ≠ 10)
      ∧ 3000#32 = 1510#32 + BitVec.ofNat 32 ((max 11 10 - min 11 10) * 1490)
      ∧ 3000 ≤ since 6000#32 3000#32 ∧ since 5999#32 3000#32 < 3000 ∧ 0 ≤ since 1500#32 3000#32 + 1500
      ∧ since 1499#32 3000#32 + 1500 < 0 := by decide

/-! ## Witnesses: claims and ramps -/

theorem witness_ArbiterChooses :
    lit.claims.chosen { switch := true, vacancy := true, front := true }
        = some (.fallback, { value := 700, rule := { up := 200, down := 50 } })
      ∧ noClaims.chosen { switch := false, vacancy := false, front := false } = none
      ∧ active.present .a = true ∧ active.service.choosing = true ∧ heldStation.service.choosing = false := by
  decide

theorem witness_RampStepMoves :
    let g : Ramp := { rampPowerUp with
      output := 300, target := 400, rule := some { up := 130, down := 60 }, state := .rising }
    let h : Ramp := { g with target := 0, state := .falling }
    g.state = .rising ∧ g.state = motion g.output g.target ∧ g.InRange ∧ h.state = .falling
      ∧ h.state = motion h.output h.target ∧ h.InRange ∧ 0 < g.output ∧ rampPowerUp.output = 0
      ∧ rampPowerUp.state = .still := by decide

theorem witness_RampStepSenses :
    active.running = true ∧ active.rampClock = some 0 ∧ active.startUp.image.isSome = true
      ∧ active.matchMet = none ∧ ¬(active.service.hold = .stepping ∧ active.service.step.tickDone = true) := by
  decide

theorem witness_RampStepSenses_config :
    (reading .reading 0).running = true ∧ (reading .reading 0).rampClock.isSome = true
      ∧ (reading .reading 0).startUp.image = none ∧ (reading .reading 0).matchMet = none
      ∧ ¬((reading .reading 0).service.hold = .stepping
        ∧ (reading .reading 0).service.step.tickDone = true) := by decide

def matchAt (n : Nat) : MatchRecord := { rank := .a, value := n, sense := .atOrAbove }

theorem witness_Match :
    let s : State := { active with
      service := { servicePowerUp with hold := .runToMatch, matching := some (matchAt 700) } }
    s.running = true ∧ s.rampClock = some 0 ∧ s.startUp.image.isSome = true
      ∧ s.service.hold = .runToMatch ∧ s.service.matching = some (matchAt 700)
      ∧ (matchAt 700).meets (s.ranks.get (matchAt 700).rank).ramp.output = true := by decide

/-- The active station in a step after its tick, `n` ramp steps counted. -/
def stepped (n : Nat) : State :=
  { active with
    service :=
      { servicePowerUp with
        hold := .stepping, step := { tickDone := true, count := n, unicast := false } } }

theorem witness_TenthStep :
    (stepped 9).service.hold = .stepping ∧ (stepped 9).service.step.tickDone = true
      ∧ (stepped 9).service.step.unicast = false ∧ 9 ≤ (stepped 9).service.step.count
      ∧ (stepped 8).service.step.count < 9 := by decide

/-- A HOLD after the step's tick ends the step with tick done yes (R175). -/
theorem test_hold_after_step_tick :
    ∃ t, exec (.hold (ask 63 [])) (stepped 3) = .next t ∧ t.service.hold = .held
      ∧ t.service.cause = some .request ∧ t.service.step = { tickDone := true, count := 3, unicast := false } :=
  ⟨_, rfl, by decide⟩

/-- A unicast step under way, its tick run or not. -/
def stepOwed (tickDone : Bool) : State :=
  { active with
    service :=
      { servicePowerUp with
        phase := .executing, pending := some { kind := 4#8, tag := 7#8, restarts := false }
        hold := .stepping, step := { tickDone := tickDone, count := if tickDone then 9 else 0, unicast := true } } }

theorem witness_TenthStep_unicast :
    (stepOwed true).running = true ∧ (stepOwed true).rampClock = some 0
      ∧ (stepOwed true).startUp.image.isSome = true ∧ (stepOwed true).service.hold = .stepping
      ∧ (stepOwed true).service.step.tickDone = true ∧ (stepOwed true).service.step.unicast = true
      ∧ 9 ≤ (stepOwed true).service.step.count ∧ (stepOwed true).mode = .active
      ∧ (stepOwed true).tx.parting = false ∧ muted.mode ≠ .active := by decide

theorem witness_Match_senses :
    (matchAt 700).meets 700 = true ∧ (matchAt 700).meets 699 = false
      ∧ ({ matchAt 700 with sense := .atOrBelow } : MatchRecord).meets 700 = true
      ∧ ({ matchAt 700 with sense := .atOrBelow } : MatchRecord).meets 701 = false := by decide

theorem witness_HeldStation :
    heldStation.ConfigInv ∧ heldStation.service.hold = .held
      ∧ ∃ t, exec .idlePoint heldStation = .next t ∧ t.service.hold = .held :=
  ⟨by decide, by decide, _, rfl, by decide⟩

theorem witness_HeldStation_ranks : heldStation.RampInv ∧ heldStation.BaseInv := by
  constructor <;> intro r <;> cases r <;> decide

/-! ## Witnesses: occupancy and wall controls -/

/-- The active station with occupancy used and some edges taken. -/
def occupied (st : Occupancy) (edges : List Time) : State :=
  { active with
    startUp := { active.startUp with image := some { defaultImage with occUsed := true } }
    occ := { state := st, edges := edges, vacancy := some 0 } }

theorem witness_Occupancy_edges :
    (occupied .vacant [0, 0]).mode ≠ .config ∧ (occupied .vacant [0, 0]).img.occUsed = true
      ∧ (occupied .occupied []).occ.state = .occupied ∧ (occupied .vacant [0, 0]).occ.state ≠ .occupied
      ∧ (occupied .vacant [0, 0]).img.edges ≤ ([0, 0] ++ [(occupied .vacant [0, 0]).now]).length
      ∧ ([0] ++ [(occupied .vacant [0]).now]).length < (occupied .vacant [0]).img.edges := by decide

theorem witness_Occupancy_passed_over :
    State.reset.mode = .config ∧ active.img.occUsed = false
      ∧ Edge.falling ≠ (if (occupied .vacant []).img.edgeFalling = true then .falling else .rising)
      ∧ (pressed .long (some 5)).switch.level.isSome = true ∧ (pressed .long none).switch.level = none := by
  decide

theorem witness_Occupancy_times :
    (occupied .vacant [0, 0]).occ.edges = 0 :: [0] ∧ (occupied .vacant []).occ.vacancy = some 0 := by decide

theorem witness_Switch_level : State.reset.mode = .config ∧ active.mode ≠ .config := by decide

theorem witness_Switch_debounce :
    ({ active with switch := { active.switch with debounce := some 0 } } : State).switch.debounce = some 0
      ∧ ({ active with switch := { active.switch with debounce := some 0 } } : State).switch.pressed
        = false
      ∧ (pressed .none none).switch.debounce = some 0 ∧ (pressed .none none).switch.pressed = true
      ∧ (pressed .none none).switch.press = .none ∧ (pressed .long (some 5)).switch.press = .long
      ∧ (pressed .timing (some 5)).switch.press = .timing
      ∧ (pressed .timing (some 5)).switch.level.isSome = true
      ∧ (pressed .timing none).switch.level = none := by decide

theorem witness_LongPress :
    (pressed .timing none).running = true ∧ (pressed .timing none).switch.pressTimer = some 0
      ∧ (pressed .timing (some 1000)).switch.level = some 1000
      ∧ (pressed .long (some 1000)).switch.levelStep = some 0
      ∧ (pressed .long (some 1000)).switch.override = some 0 := by decide

/-! ## Witnesses: row line -/

/-- The active station with the line in a state, another peer pulling ROW or not. -/
def onLine (st : LineState) (pulled : Bool) : State :=
  { active with
    line :=
      { pulled := pulled, state := st, recessiveTime := if pulled then none else some 0
        dominantTime := if pulled then some 0 else none
        releaseTime := if st = .stuck ∧ pulled = false then some 0 else none } }

/-- A station sending a frame of zeros, `driven` bits on ROW, at a time. -/
def driving (driven clock : Nat) : State :=
  let s := sending .full 0 none .sending
  { s with
    clock := clock
    tx := { s.tx with flight := s.tx.flight.map fun f => { f with driven := driven, read := driven } } }

theorem witness_LineMonitor_levels :
    (onLine .idle false).running = true ∧ (onLine .idle false).driveNow.line.pulled = false
      ∧ (onLine .idle false).driveNow.rowLow = false ∧ (onLine .idle false).rx.assembles 0 = false
      ∧ (onLine .idle false).line.state ≠ .stuck ∧ (onLine .stuck false).driveNow.line.state = .stuck
      ∧ (onLine .busy true).driveNow.line.pulled = true
      ∧ State.rowLow { (onLine .busy true) with line := { (onLine .busy true).line with pulled := false } } = false
      ∧ (onLine .busy false).line.recessiveTime = some 0 ∧ (onLine .busy false).driveNow.drives = false
      ∧ (onLine .stuck false).line.releaseTime = some 0 := by decide

theorem witness_LineMonitor_own_bits :
    (driving 1 0).driveNow.rowLow = true ∧ (driving 1 0).driveNow.line.pulled = false
      ∧ (driving 1 0).driveNow.drives = true
      ∧ (let f := ({ start := 0, chars := [0#8], driven := 10, read := 10, wrong := false, seq := 0, report := none, asFull := true } : Flight)
        f.bit 0 = false ∧ f.bit 10 = true ∧ f.begunBy 100 = f.driven + 1 ∧ 10 < 11 * f.chars.length)
      ∧ (driving 0 0).rowLow = false ∧ (driving 10 0).rowLow = true
      ∧ State.rowLow { driving 1 0 with line := { (driving 1 0).line with pulled := true } } = true := by
  decide

/-- The stop bit read back right, read dominant while another peer pulls, and every hypothesis met. -/
theorem witness_LineMonitor_read_back :
    (∀ f ∈ (driving 10 100).tx.flight, f.Sound ∧ f.wrong = false ∧ f.read = f.driven ∧ f.begunBy 100 = 11)
      ∧ (atBit 10 (driving 0 105)).driveNow.bitsRead = 11
      ∧ (∀ f ∈ (disturbed (atBit 10 (driving 0 105))).tx.flight, f.Sound ∧ f.wrong = false)
      ∧ (∀ g ∈ (disturbed (atBit 10 (driving 0 105))).driveNow.tx.flight,
          g.wrong = true ∧ g.read = 10 ∧ g.driven = 11)
      ∧ (∀ g ∈ (disturbed (atBit 10 (driving 0 104))).driveNow.tx.flight, g.wrong = false) := by decide

/-- The active station with a frame under assembly and the after-idle mark set. -/
def assembling (st : RxState) (f : RxFrame) : State :=
  { active with rx := { receiverPowerUp with state := st, afterIdle := true, frame := some f } }

theorem witness_LineMonitor_frame :
    (assembling .header opened).driveNow.rowLow = false ∧ (assembling .header opened).rx.assembles 0 = false
      ∧ (assembling .header opened).rx.afterIdle = true
      ∧ (assembling .header opened).rx.frame.any (fun f => !f.touched) = true := by decide

theorem witness_HeldLine :
    (onLine .busy true).running = true ∧ (onLine .busy true).driveNow.line.dominantTime = some 0
      ∧ (onLine .busy true).driveNow.line.pulled = true ∧ (onLine .busy true).ResultInv
      ∧ (onLine .busy true).mode = .active ∧ listening.mode = .listen ∧ muted.mode ≠ .listen
      ∧ muted.mode ≠ .active ∧ (onLine .stuck true).line.state = .stuck := by decide

theorem witness_HeldLine_result :
    let s : State := { withResult true with line := (onLine .busy true).line }
    s.driveNow.line.pulled = true ∧ s.driveNow.line.dominantTime = some 0 ∧ s.ResultInv
      ∧ s.service.phase = .resultPending ∧ s.service.restartWaits = true := by decide

/-- The active station with a character under assembly, some samples taken. -/
def inCharacter (samples : List Bool) : State :=
  { active with rx := { receiverPowerUp with char := some { start := 0, afterIdle := true, samples := samples } } }

theorem witness_Receiver_glitch :
    let w := ((inCharacter []).advanceTo 5).sampleTo 5
    w.rx.char.map RxChar.samples = some [true] := by decide

theorem witness_Receiver_character :
    let w := ((inCharacter [false]).advanceTo 5).sampleTo 5
    let u := (w.advanceTo 110).sampleTo 110
    w.rx.char.map RxChar.samples = some [false] ∧ u.rx.char.map (fun c => c.samples.length) = some 11
      ∧ (samplesWord (u.rx.char.map RxChar.samples |>.getD [])).getLsbD 10 = true ∧ u.rowLow = false := by
  decide

theorem witness_Receiver_judgements :
    judgeSamples 0x001#11 = .glitch ∧ judgeSamples 0x000#11 = .break_ ∧ judgeSamples 0x002#11 = .framingError
      ∧ judgeSamples 0x402#11 = .parityError ∧ judgeSamples 0x602#11 = .good 1#8 := by decide

/-- A frame in its header: the access character taken, and the kind and sequence character or not. -/
def inHeader (a : Byte) (k : Option Byte) : RxFrame := { opened with access := some a, kindSeq := k }

theorem witness_Receiver_frame :
    (assembling .header (inHeader 0x8A#8 none)).rx.frame = some (inHeader 0x8A#8 none)
      ∧ (0x60#8).toNat / 16 = 6 ∧ (0x20#8).toNat / 16 = 2 ∧ (0x8A#8).toNat / 64 ≠ classOf 2
      ∧ (inHeader 0x8A#8 (some 0x10#8)).kindSeq.isSome = true ∧ 48 < (49#8).toNat
      ∧ ({ opened with check := some 0xFF#8 } : RxFrame).check = some 0xFF#8
      ∧ (0xFF#8).toNat * 256 + (0xFE#8).toNat ≠ opened.crc.toNat := by decide

theorem witness_Receiver_gap :
    (assembling .header opened).driveNow.rx.frame = some opened
      ∧ (assembling .header opened).driveNow.drives = false
      ∧ (assembling .header opened).driveNow.line.recessiveTime = some 0 ∧ active.rx.frame = none := by decide

/-! ## Witnesses: transmit scheduler -/

theorem witness_FallingDue :
    active.mode = .active ∧ active.tx.parting = false
      ∧ active.tx.queue.find? QueueEntry.isMarker = none
      ∧ (sending .full 0 none .sending).tx.queue.find? QueueEntry.isMarker = some (marker .full 0)
      ∧ (sending .delta 0 none .sending).tx.queue.find? QueueEntry.isMarker = some (marker .delta 0)
      ∧ (marker .delta 0).inFlight = true
      ∧ active.tx.report = some 0 ∧ listening.mode ≠ .active := by decide

/-- The active station with notices waiting or in flight. -/
def noticing (inFlight : Bool) : State :=
  { active with
    tx := { active.tx with
      queue := [{ marker (.notice 5 0) 0 with inFlight := inFlight },
        { marker (.notice 6 1) 0 with inFlight := false },
        { marker .delta 0 with inFlight := false }] } }

theorem witness_FallingDue_notice :
    let e := ({ marker (.notice 12 0) 0 with inFlight := false } : QueueEntry)
    (noticing true).mode = .active ∧ (noticing true).tx.parting = false
      ∧ 2 ≤ ((noticing true).tx.queue.filter QueueEntry.isNotice).length
      ∧ (noticing true).tx.queue
        = [marker (.notice 5 0) 0] ++ { marker (.notice 6 1) 0 with inFlight := false }
            :: [{ marker .delta 0 with inFlight := false }]
      ∧ ((noticing true).tx.queue.filter fun x => ¬(x.kind = .notice 6 1 ∧ x.inFlight = false)).length = 2
      ∧ (∀ x ∈ (noticing true).tx.queue.take 2, x.kind.frameClass ≤ e.kind.frameClass)
      ∧ (∀ x ∈ (noticing true).tx.queue.drop 2, e.kind.frameClass < x.kind.frameClass)
      ∧ worthDelta peerRecord { peerRecord with reading := 267 } = true
      ∧ worthDelta peerRecord { peerRecord with reading := 268 } = false := by decide

/-- A DELTA marker in flight, composed as a FULL REPORT. -/
def deltaAsFull : State :=
  let s := sending .delta 0 none .sending
  { s with tx := { s.tx with flight := s.tx.flight.map fun f => { f with asFull := true } } }

theorem witness_FallingDue_held :
    (marker .delta 0).kind = .delta ∧ (∀ f ∈ (sending .delta 0 none .sending).tx.flight, f.asFull = false)
      ∧ (sending .delta 0 none .sending).fullDue.tx.heldFull = true
      ∧ (∃ f, deltaAsFull.tx.flight = some f ∧ f.asFull = true) ∧ deltaAsFull.fullDue.tx.queue.map QueueEntry.kind = [.full] :=
  ⟨rfl, by decide, by decide, ⟨_, rfl, rfl⟩, by decide⟩

/-- The active station with one entry waiting for the line and a delta basis. -/
def waiting (k : EntryKind) (basis : Option Published) : State :=
  { active with
    tx :=
      { active.tx with
        queue := [{ kind := k, entryTime := 0, attempts := 0, inFlight := false }]
        contention := .waitIdle, basis := basis } }

theorem witness_Attempt_markers :
    (waiting .full none).running = true ∧ (waiting .full none).mode = .active
      ∧ (waiting .full none).tx.contention = .waitIdle ∧ (waiting .full none).line.state = .idle
      ∧ planDelta (waiting .delta none).publishedRecord (waiting .delta none).tx.basis = .full
      ∧ planDelta active.publishedRecord (some active.publishedRecord) = .nothing
      ∧ planDelta active.publishedRecord (some { active.publishedRecord with reading := 9 })
        = .delta { fields := [.reading 0], want := [] } := by decide

theorem witness_Attempt_line :
    (waiting .full none).line.pulled = false ∧ (waiting .full none).tx.flight = none
      ∧ exec .transitionToDominant (waiting .full none) = .next ((waiting .full none).peersPull true) :=
  ⟨rfl, rfl, rfl⟩

theorem witness_Attempt_notice :
    ((withFront (front .watching)).now - 0#32).toNat ≤ 2000
      ∧ findFront (withFront (front .watching)).fronts.table 12 0 = some (front .watching)
      ∧ findFront active.fronts.table 12 0 = none := by decide

/-- A DELTA marker in arbitration at the stop bit of its sync character, which a peer pulls. -/
def losing : State := disturbed (atBit 10 (sending .delta 3 none .arbitrating))

theorem witness_Loss :
    losing.running = true ∧ losing.tx.inFlight = some (marker .delta 3)
      ∧ losing.tx.contention = .arbitrating ∧ losing.tx.flight.isSome = true
      ∧ (∀ f ∈ losing.tx.flight, ∃ m, losing.misread f 22 = some m ∧ losing.ReadsWrong m f 22
          ∧ m.clock = 105)
      ∧ (∀ x ∈ ((sending .delta 3 none .arbitrating).driveTo 220).tx.flight, x.wrong = true → 22 ≤ x.read) := by
  refine ⟨rfl, rfl, rfl, rfl, ?_, by decide⟩
  rintro f ⟨⟩
  exact ⟨_, rfl, ⟨_, rfl, by decide, by decide, rfl⟩, by decide⟩

theorem witness_Won :
    let s := atBit 21 (sending .delta 3 none .arbitrating)
    s.tx.contention = .arbitrating ∧ s.line.pulled = false
      ∧ (∀ f ∈ s.tx.flight, f.Sound ∧ f.wrong = false ∧ 2 ≤ f.chars.length)
      ∧ 22 ≤ ((s.advanceTo 215).driveTo 215).bitsRead
      ∧ ((disturbed s |>.advanceTo 215).driveTo 215).bitsRead = 21 := by decide

theorem witness_Garble :
    let s := disturbed (sending .delta 2 none .sending)
    s.running = true ∧ s.tx.inFlight = some (marker .delta 2) ∧ (marker .delta 2).attempts < 3
      ∧ 3 ≤ (marker .delta 3).attempts ∧ s.tx.parting = false ∧ (marker .delta 3).isResult = false
      ∧ (∀ f ∈ s.tx.flight, ∃ m, s.garbleMoment = some m ∧ s.Garbles m f ∧ m.clock = 765)
      ∧ (sending .delta 2 none .sending).garbleMoment = none := by
  refine ⟨rfl, rfl, by decide, by decide, rfl, rfl, ?_, rfl⟩
  rintro f ⟨⟩
  exact ⟨_, rfl, .inr ⟨rfl, .inl ⟨_, rfl, by decide, by decide, rfl⟩⟩, by decide⟩

/-- A fault at the start bit of the access character. -/
theorem witness_Garble_fault :
    let s := atBit 11 (sending .delta 2 none .arbitrating)
    s.garbleMoment.map State.clock = some 115
      ∧ ∀ f ∈ s.tx.flight, ∃ m, s.Garbles m f ∧ m.clock = 115 := by
  refine ⟨by decide, ?_⟩
  rintro f ⟨⟩
  refine ⟨_, .inl ⟨rfl, _, rfl, 11, by decide, ?_, by decide, ?_, ⟨_, rfl, ?_⟩, rfl⟩, ?_⟩ <;> decide

/-- A peer that pulls ROW from the start wins over the first recessive bit of the sync character, half a bit
time after it begins, and the entry waits on; with ROW left alone there is no loss (R163). -/
theorem test_loss_in_the_sync_character :
    (∃ t u v, exec .attemptStart begun = .next t ∧ exec .transitionToDominant t = .next u
      ∧ exec .arbitrationLoss u = .next v ∧ v.clock = 15 ∧ v.tx.contention = .waitIdle
      ∧ v.tx.queue.map QueueEntry.kind = [.full] ∧ v.tx.flight = none)
    ∧ ∃ t u, exec .attemptStart begun = .next t ∧ exec .arbitrationLoss t = .next u
      ∧ u.tx.contention = .arbitrating ∧ u.clock = 0 :=
  ⟨⟨_, _, _, rfl, rfl, rfl, by decide⟩, _, _, rfl, rfl, by decide⟩

/-- With ROW left alone the sync and access characters read back right, and the state becomes SENDING; under a
peer's pull they do not (R163). -/
theorem test_arbitration_won :
    (∃ t u, exec .attemptStart begun = .next t ∧ exec .arbitrationWon t = .next u ∧ u.clock = 215
      ∧ u.tx.contention = .sending ∧ u.bitsRead = 22)
    ∧ ∃ t u v, exec .attemptStart begun = .next t ∧ exec .transitionToDominant t = .next u
      ∧ exec .arbitrationWon u = .next v ∧ v.tx.contention = .arbitrating ∧ v.clock = 0 :=
  ⟨⟨_, _, rfl, rfl, by decide⟩, _, _, _, rfl, rfl, rfl, by decide⟩

theorem witness_Completed :
    (sending .full 0 (some peerRecord) .sending).running = true
      ∧ (sending .full 0 (some peerRecord) .sending).tx.contention = .sending
      ∧ (sending .full 0 (some peerRecord) .sending).tx.inFlight = some (marker .full 0)
      ∧ (sending .full 0 (some peerRecord) .sending).tx.heldFull = false
      ∧ ((sending .full 0 (some peerRecord) .sending).advanceTo 770).driveNow.bitsRead = 77
      ∧ ((disturbed (sending .full 0 none .sending)).advanceTo 770).driveNow.bitsRead = 76
      ∧ (∀ f ∈ (sending .full 0 none .sending).tx.flight, f.Sound ∧ f.wrong = false)
      ∧ (marker .full 0).isMarker = true ∧ (marker (.notice 12 0) 0).isMarker = false
      ∧ (marker (.notice 12 0) 0).isResult = false ∧ (marker (.result []) 0).isResult = true := by decide

/-- The station sending its parting report. -/
def parting (n : Nat) : State :=
  let s := sending .full n (some peerRecord) .sending
  { s with tx := { s.tx with parting := true } }

theorem witness_Completed_results :
    let s : State := { sending (.result []) 3 none .sending with service := owing true }
    s.tx.inFlight = some (marker (.result []) 3) ∧ s.tx.heldFull = false ∧ s.service.phase = .resultPending
      ∧ s.service.restartWaits = true ∧ (owing false).phase = .resultPending
      ∧ (owing false).restartWaits = false ∧ 3 ≤ (marker (.result []) 3).attempts := by decide

theorem witness_Completed_parting :
    (parting 3).tx.inFlight = some (marker .full 3) ∧ (parting 3).tx.parting = true
      ∧ ((parting 3).tx.queue.filter fun x => !x.inFlight) = []
      ∧ ∃ t, exec (.frameComplete 10#6) (parting 3) = .next t ∧ t.mode = .mute :=
  ⟨by decide, rfl, by decide, _, rfl, by decide⟩

/-- A DELTA marker in flight, composed as a FULL REPORT, behind which a FULL is held over. -/
def heldOver : State :=
  let s := sending .delta 2 (some peerRecord) .sending
  { s with tx := { s.tx with heldFull := true } }

theorem witness_Completed_heldOver :
    heldOver.mode = .active ∧ heldOver.tx.parting = false ∧ heldOver.tx.heldFull = true
      ∧ (∀ x ∈ heldOver.tx.queue, x.isMarker = true → x.inFlight = true)
      ∧ (∃ t, exec (.frameComplete 10#6) heldOver = .next t ∧ t.tx.queue.map QueueEntry.kind = [.full])
      ∧ ∃ t, exec (.garble 10#6) (disturbed heldOver) = .next t
        ∧ t.tx.queue = [{ marker .full 3 with inFlight := false }] :=
  ⟨rfl, rfl, rfl, by decide, ⟨_, rfl, by decide⟩, _, rfl, by decide⟩

/-- A FULL that falls due behind a DELTA marker whose frame is a FULL REPORT is answered by that report where it
completes, and by the marker's next attempt where it meets a garble (R156, R162). -/
theorem test_full_due_behind_delta_as_full :
    (∃ t, exec (.frameComplete 10#6) deltaAsFull.fullDue = .next t ∧ t.tx.queue = [])
      ∧ ∃ t, exec (.garble 10#6) (disturbed deltaAsFull.fullDue) = .next t
        ∧ t.tx.queue = [{ marker .full 1 with inFlight := false }] :=
  ⟨⟨_, rfl, by decide⟩, _, rfl, by decide⟩

theorem witness_Defer :
    let s := sending .full 0 none .defer
    s.running = true ∧ s.tx.contention = .defer ∧ s.line.recessiveTime = some 0 := by decide

/-! ## Witnesses: service engine -/

theorem witness_ReadingAndSnapshot :
    active.Serves (ask 10 []) ∧ (ask 10 []).params = [] ∧ (ask 10 [62]).params = [62#8]
      ∧ (62#8).toNat ≤ 62 ∧ active.service.snapshot = none := by decide

/-- The active station with its parting report waiting. -/
def partingStation : State :=
  { active with
    tx := { active.tx with
      queue := [{ marker .full 0 with inFlight := false }], contention := .waitIdle, parting := true } }

theorem witness_unanswered :
    listening.ServesUnanswered (ask 10 []) ∧ partingStation.ServesUnanswered (ask 10 [])
      ∧ partingStation.ServesUnanswered (ask 10 [62]) ∧ partingStation.ServesUnanswered (ask 10 [7, 3, 232])
      ∧ partingStation.ServesUnanswered (ask 10 [0, 3, 232, 1])
      ∧ ({ partingStation with service := (stepped 0).service } : State).ServesUnanswered (ask 10 [])
      ∧ ({ partingStation with service := heldStation.service } : State).ServesUnanswered (ask 10 []) := by
  refine ⟨?_, ?_, ?_, ?_, ?_, ?_, ?_⟩ <;> decide

/-- A RESTART heard while a parting report waits begins at once (R160, R182). -/
theorem test_restart_while_parting :
    ∃ t, exec (.restart (ask 10 []) 10#6) partingStation = .next t ∧ t.mode = .listen ∧ t.tx = txPowerUp :=
  ⟨_, rfl, by decide⟩

theorem witness_Snapshot_shift :
    let s : State := { active with
      service := { servicePowerUp with snapshot := some [], shiftIndex := 7 } }
    s.Serves (ask 10 []) ∧ s.service.snapshot = some [] ∧ s.service.shiftIndex < 8
      ∧ ({ s with service := { s.service with shiftIndex := 8 } } : State).Serves (ask 10 []) := by decide

theorem witness_HoldReleaseStep :
    active.service.hold = .running ∧ active.Serves (ask 10 []) ∧ active.ServesAll (ask 63 [])
      ∧ heldStation.service.hold = .held ∧ heldStation.Serves (ask 10 [])
      ∧ heldStation.ServesAll (ask 63 []) := by decide

theorem witness_HoldReleaseStep_stepping :
    (stepped 0).service.hold = .stepping ∧ (stepped 0).Serves (ask 10 []) ∧ (stepped 0).ServesAll (ask 63 [])
      ∧ (stepped 0).service.step.unicast = false ∧ (stepOwed true).service.hold = .stepping
      ∧ (stepOwed true).ServesAll (ask 63 []) ∧ (stepOwed true).service.step.unicast = true
      ∧ (stepOwed true).service.step.tickDone = true ∧ (stepOwed false).service.step.tickDone = false
      ∧ (stepOwed false).ServesAll (ask 63 []) ∧ (stepOwed false).mode = .active := by decide

theorem witness_HoldReleaseStep_owed :
    ∃ s, exec (.release (ask 63 [])) (stepOwed false) = .next s ∧ s.running = true
      ∧ s.levelling.tick = some 0 ∧ s.service.skipsTick = false ∧ s.service.owed = true
      ∧ s.service.pending = some { kind := 4#8, tag := 7#8, restarts := false } ∧ s.mode = .active
      ∧ s.tx.parting = false := ⟨_, rfl, by decide⟩

theorem witness_RunToMatch :
    active.Serves (ask 10 [0, 3, 232, 1])
      ∧ (ask 10 [0, 3, 232, 1]).params = [0#8, 3#8, 232#8, 1#8] ∧ active.present .a = true
      ∧ (3#8).toNat * 256 + (232#8).toNat ≤ 1000 ∧ (1#8).toNat ≤ 1
      ∧ (stepped 0).Serves (ask 10 [0, 3, 232, 1]) ∧ heldStation.Serves (ask 10 [0, 3, 232, 1]) := by decide

theorem witness_ForceLevel :
    rankSetOf 7#8 = some (PerRank.const true) ∧ active.allPresent (PerRank.const true) = true
      ∧ (3#8).toNat * 256 + (232#8).toNat ≤ 1000 ∧ active.Serves (ask 10 [7, 3, 232])
      ∧ active.ServesAll (ask 63 [7]) ∧ active.running = true := by decide

theorem witness_ClearConditions :
    active.Serves (ask 10 [255, 255]) ∧ active.ServesAll (ask 63 [0, 0])
      ∧ (ask 63 [0, 0]).params = [0#8, 0#8] := by decide

/-- A condition that the request's own start edge latches stands unless it is named (R132, R181). -/
theorem test_clear_leaves_own_discard :
    ∃ t, exec (.clearConditions (ask 63 [0, 0x20])) (assembling .header opened) = .next t
      ∧ t.latched .rxFrameError = true := ⟨_, rfl, by decide⟩

theorem witness_Restart :
    active.Hears ∧ (ask 63 []).target = 63#8 ∧ muted.Hears ∧ muted.mode = .mute
      ∧ (ask 10 []).target.toNat = muted.own ∧ muted.own ≤ 62 ∧ active.Serves (ask 10 [])
      ∧ listening.Hears ∧ listening.mode = .listen ∧ listening.service.phase = .idle := by decide

theorem witness_TurnedAway_busy :
    let s : State := { active with service := owing false }
    s.Hears ∧ s.mode ≠ .mute ∧ s.service.phase ≠ .idle ∧ (ask 10 []).target.toNat = s.own ∧ s.own ≤ 62 := by
  decide

theorem witness_TurnedAway_frame_end :
    let s : State := { sending (.result []) 0 none .sending with service := owing false, clock := 770 }
    s.tx.flight.isSome = true ∧ s.running = true ∧ s.mode = .active ∧ s.line.state ≠ .stuck
      ∧ s.service.phase ≠ .idle ∧ (ask 10 []).target.toNat = s.own ∧ 0 + 110 * 7 ≤ s.clock
      ∧ s.tx.contention = .sending := by decide

theorem witness_TurnedAway_parameters :
    active.Serves (ask 10 [1, 2, 3, 4]) ∧ (ask 10 [1, 2, 3, 4]).params.length ≤ 4
      ∧ active.Serves (ask 10 [63]) ∧ 62 < (63#8).toNat ∧ active.Serves (ask 10 [3, 0, 0, 0])
      ∧ 2 < (3#8).toNat ∧ 1000 < (3#8).toNat * 256 + (233#8).toNat ∧ 13 < (14#8).toNat := by decide

theorem witness_TurnedAway_malformed :
    active.Malformed 1#8 [0#8] ∧ active.Malformed 5#8 [3#8, 0#8, 0#8, 0#8] ∧ active.Malformed 5#8 []
      ∧ active.Malformed 6#8 [1#8, 3#8, 233#8] ∧ active.Malformed 7#8 [8#8] ∧ active.Malformed 10#8 [63#8]
      ∧ active.Malformed 12#8 [0#8] ∧ active.ServesAll (ask 63 [8]) ∧ muted.Hears
      ∧ (ask 62 []).target.toNat ≤ 62 ∧ (ask 62 []).target.toNat ≠ active.own :=
  ⟨List.cons_ne_nil _ _, Or.inl (by decide), trivial, Or.inr (by decide), Or.inr (Or.inl (by decide)),
    show 62 < (63#8).toNat by decide, trivial, by decide, by decide, by decide, by decide⟩

theorem witness_TurnedAway_others :
    active.Hears ∧ (ask 62 []).target.toNat ≤ 63 ∧ (ask 62 []).target.toNat ≠ 63
      ∧ (ask 62 []).target.toNat ≠ active.own ∧ muted.mode = .mute ∧ (ask 63 []).target = 63#8 := by decide

/-! ## Witnesses: frames, bodies, invariants -/

theorem witness_SentFrame :
    active.rx.state = .search ∧ active.rx.frame = none ∧ active.rx.ownStart = false
      ∧ headerFits 1 (classOf 1) 62 = some true ∧ headerFits 4 (classOf 4) 63 = some true := by decide

theorem witness_Bodies :
    peerRecord.mode ≠ .config ∧ peerRecord.reading ≤ 32767 ∧ peerRecord.want.length ≤ 4
      ∧ peerRecord.want.Nodup ∧ (∀ x ∈ peerRecord.want, x ≤ 62) ∧ 1 ≤ peerDelta.fields.length
      ∧ peerDelta.fields.length ≤ 6 ∧ (peerDelta.fields.map DeltaField.tag).Nodup
      ∧ peerNotice.origin ≤ 62 ∧ 1 ≤ peerNotice.magnitude ∧ 1 ≤ peerNotice.sightings.length
      ∧ (∀ x ∈ peerNotice.sightings, x.pos ≤ 62 ∧ x.age ≤ 65535) := by decide

theorem witness_Bodies_goals : ∀ r : Rank, ∀ g ∈ peerRecord.goal.get r, g ≤ 1000 := by
  intro r; cases r <;> decide

theorem witness_invariants_step : ∃ t, step active = .next t := ⟨_, rfl⟩

theorem witness_invariants_tables :
    active.WantInv ∧ active.TableInv ∧ active.SamplerInv ∧ active.FrontsInv := by
  refine ⟨?_, ?_, ?_, ?_⟩ <;> decide

theorem witness_invariants_modes : active.ConfigInv ∧ active.ModeInv ∧ active.LineInv ∧ active.SwitchInv := by
  refine ⟨?_, ?_, ?_, ?_⟩ <;> decide

theorem witness_invariants_engines :
    active.HoldInv ∧ active.PhaseInv ∧ active.ResultInv ∧ active.SilentInv ∧ active.QueueInv
      ∧ active.ContentionInv := by
  refine ⟨?_, ?_, ?_, ?_, ?_, ?_⟩ <;> decide

theorem witness_invariants_levels : active.LevelInv := by
  refine ⟨?_, ?_, ?_, ?_, ?_, ?_, ?_, ⟨?_, ?_⟩, ⟨?_, ?_⟩, ?_, ?_⟩ <;> decide

theorem witness_invariants_ranks :
    active.BaseInv ∧ active.RampInv ∧ active.ChoiceInv ∧ active.OwnerInv := by
  refine ⟨?_, ?_, ?_, ?_, by decide⟩
  · intro r; cases r <;> decide
  · intro r; cases r <;> decide
  · intro _ r; cases r <;> decide
  · intro r; cases r <;> decide

theorem witness_MuteIsLeft :
    muted.mode = .mute ∧ muted.ConfigInv ∧ muted.SilentInv ∧ muted.PhaseInv
      ∧ ∃ t, exec .resetNAssert muted = .next t ∧ t.mode ≠ .mute :=
  ⟨by decide, by decide, by decide, by decide, _, rfl, by decide⟩

/-- The body of a broadcast RESTART and the CRC of its frame from position 63. -/
def restartBody : List Byte := [63#8, 7#8, 13#8]

def restartCrc : Half := crcOf ([0x7F#8, 0x40#8, 3#8] ++ restartBody)

/-- The eleven bits of its last character. -/
def restartEnd : BitVec 11 := charBits (restartCrc.extractLsb' 0 8)

/-- The muted station taking the last character of that frame, all 11 samples of it taken. -/
def hearingRestart : State :=
  { muted with
    rx := { receiverPowerUp with
      state := .check
      char := some
        { start := 0, afterIdle := false
          samples := (List.range 11).map fun i => restartEnd.getLsbD i }
      frame := some
        { access := some 0x7F#8, kindSeq := some 0x40#8, length := some 3, body := restartBody
          crc := restartCrc, check := some (restartCrc.extractLsb' 8 8), driving := false
          touched := false } } }

set_option maxRecDepth 4000 in
theorem witness_MuteIsLeft_by_characters :
    Instr.wf (.characterEnd restartEnd 10#6) = true ∧ hearingRestart.mode = .mute ∧ hearingRestart.ConfigInv
      ∧ hearingRestart.SilentInv ∧ hearingRestart.PhaseInv
      ∧ ∃ t, exec (.characterEnd restartEnd 10#6) hearingRestart = .next t ∧ t.mode = .listen :=
  ⟨by decide, by decide, by decide, by decide, by decide, _, rfl, by decide⟩

set_option maxRecDepth 4000 in
theorem witness_invariants_receiver :
    active.ReceiverInv ∧ (∃ f ∈ hearingRestart.rx.frame, f.Sound .check) ∧ hearingRestart.WantInv := by
  refine ⟨⟨by decide, by decide⟩, ⟨_, rfl, ?_⟩, by decide⟩
  decide

end Sys2Proof.Tests
end

