-- ==== Sys2Proof/Proofs/Sampling.lean ====
section
/-! The daylight sampler: what forming a sample, taking it into the runs and forming the window record
each answer (R3 to R7, R10, R13 to R15), and the statements O8 and O11 from these. -/

namespace Sys2Proof.Machine

/-! ### The sample of a conversion (R3, R4) -/

section SampleOf
variable (p : Sampler) (g : Range) (result : ConvResult)

/-- R4's table in its order. -/
theorem Sampler.quality_eq_table :
    p.quality result
      = (if p.present = false then .absent
         else if result = .underflow then .fault
         else if 0 < p.settle then .settling
         else if result = .fullScale then .saturated
         else .good) := by
  cases hp : p.present <;> cases result <;> simp [Sampler.quality, hp]

/-- A sample that is not ABSENT was taken in presence state PRESENT. -/
theorem Sampler.present_of_quality_ne_absent (h : p.quality result ≠ .absent) : p.present = true := by
  cases hp : p.present with
  | true => rfl
  | false => exact absurd (by rw [p.quality_eq_table, if_pos hp]) h

/-- The factor of a range: 1 in LOW, 8 in HIGH (R3). -/
theorem Range.mul_scale (n : Nat) : n * g.scale = if g = .low then n else n * 8 := by
  cases g <;> simp [Range.scale]

@[simp] theorem Sampler.sampleOf_quality : (p.sampleOf g result).quality = p.quality result := rfl

@[simp] theorem Sampler.sampleOf_range : (p.sampleOf g result).range = g := rfl

/-- ABSENT and FAULT samples have value 0. -/
theorem Sampler.sampleOf_value_eq_zero (h : p.quality result = .absent ∨ p.quality result = .fault) :
    (p.sampleOf g result).value = 0 := by
  simp [Sampler.sampleOf, h]

/-- Any other sample has the value of its code in its range. -/
theorem Sampler.sampleOf_value_converted (habsent : p.quality result ≠ .absent)
    (hfault : p.quality result ≠ .fault) :
    (p.sampleOf g result).value = if g = .low then resultCode result else resultCode result * 8 := by
  simp [Sampler.sampleOf, habsent, hfault, g.mul_scale]

end SampleOf

/-! ### The runs, the settle count and the range after a sample (R5 to R7, R10) -/

section Ranging
variable (p : Sampler) {x : Sample}

/-- The second SATURATED sample running in LOW decides the switch to HIGH (R6). -/
theorem Sampler.ranging_switches_high (hq : x.quality = .saturated) (hr : x.range = .low)
    (hrun : 1 ≤ p.saturatedRun) :
    p.ranging x = { p with range := .high, settle := 1, saturatedRun := 0, lowRun := 0 } := by
  simp [Sampler.ranging, hq, hr, hrun]

/-- The first SATURATED sample in LOW starts the saturated run (R6). -/
theorem Sampler.ranging_starts_saturatedRun (hpres : p.present = true) (hq : x.quality = .saturated)
    (hr : x.range = .low) (hrun : p.saturatedRun = 0) :
    p.ranging x = { p with settle := p.settle - 1, saturatedRun := 1, lowRun := 0 } := by
  simp [Sampler.ranging, hpres, hq, hr, hrun]

/-- The eighth GOOD sample below 400 running in HIGH decides the switch to LOW (R7). -/
theorem Sampler.ranging_switches_low (hq : x.quality = .good) (hr : x.range = .high)
    (hv : x.value < 400) (hrun : 7 ≤ p.lowRun) :
    p.ranging x = { p with range := .low, settle := 1, saturatedRun := 0, lowRun := 0 } := by
  simp [Sampler.ranging, hq, hr, hv, hrun]

/-- An earlier GOOD sample below 400 in HIGH raises the low run (R7). -/
theorem Sampler.ranging_raises_lowRun (hpres : p.present = true) (hq : x.quality = .good)
    (hr : x.range = .high) (hv : x.value < 400) (hrun : p.lowRun < 7) :
    p.ranging x = { p with settle := p.settle - 1, saturatedRun := 0, lowRun := p.lowRun + 1 } := by
  have hshort : ¬ 7 ≤ p.lowRun := by omega
  simp [Sampler.ranging, hpres, hq, hr, hv, hshort]

/-- Any other sample ends both runs (R6, R7). -/
theorem Sampler.ranging_ends_runs (hsat : ¬(x.quality = .saturated ∧ x.range = .low))
    (hlow : ¬(x.quality = .good ∧ x.range = .high ∧ x.value < 400)) :
    p.ranging x
      = { p with
          settle := if p.present = true then p.settle - 1 else p.settle
          saturatedRun := 0, lowRun := 0 } := by
  simp [Sampler.ranging, hsat, hlow]

@[simp] theorem Sampler.ranging_faultRun (x : Sample) : (p.ranging x).faultRun = p.faultRun := by
  simp only [Sampler.ranging, apply_ite Sampler.faultRun, ite_self]

end Ranging

/-! ### An arrival: what it does to the range and the counts is what its sample does -/

section Arrive
variable (p : Sampler) (g : Range) (result : ConvResult)

@[simp] theorem Sampler.arrive_range :
    (p.arrive g result).range = (p.ranging (p.sampleOf g result)).range := rfl

@[simp] theorem Sampler.arrive_settle :
    (p.arrive g result).settle = (p.ranging (p.sampleOf g result)).settle := rfl

@[simp] theorem Sampler.arrive_saturatedRun :
    (p.arrive g result).saturatedRun = (p.ranging (p.sampleOf g result)).saturatedRun := rfl

@[simp] theorem Sampler.arrive_lowRun :
    (p.arrive g result).lowRun = (p.ranging (p.sampleOf g result)).lowRun := rfl

theorem Sampler.arrive_faultRun :
    (p.arrive g result).faultRun
      = if (p.sampleOf g result).quality = .fault then min 4 (p.faultRun + 1) else 0 := by
  rw [← p.ranging_faultRun (p.sampleOf g result)]
  rfl

end Arrive

/-! ### The window record (R13 to R15) -/

theorem Sample.usable_eq_decide (x : Sample) :
    x.usable = decide (x.quality = .good ∨ x.quality = .saturated) := by
  rw [Bool.decide_or]
  rfl

theorem sumValues_eq_sum (xs : List Sample) : sumValues xs = (xs.map Sample.value).sum := by
  rw [List.sum_eq_foldl, List.foldl_map]
  rfl

/-- The higher ranking of the worst quality so far and a sample's. -/
def worseQuality (q : Option Quality) (x : Sample) : Option Quality :=
  if worstCode q < x.quality.code then some x.quality else q

theorem Sampler.formWindow_worst (p : Sampler) (w : Nat) :
    (p.formWindow w).worst = (p.ring.take w).foldl worseQuality none := rfl

theorem worstCode_worseQuality (q : Option Quality) (x : Sample) :
    worstCode (worseQuality q x) = max (worstCode q) x.quality.code := by
  unfold worseQuality
  split
  · simp only [worstCode, Option.map_some, Option.getD_some] at *
    omega
  · omega

/-- No sample outranks the worst quality, and neither does the one it started from. -/
theorem code_le_foldl_worseQuality (xs : List Sample) (q : Option Quality) :
    worstCode q ≤ worstCode (xs.foldl worseQuality q)
      ∧ ∀ x ∈ xs, x.quality.code ≤ worstCode (xs.foldl worseQuality q) := by
  induction xs generalizing q with
  | nil => simp
  | cons y ys ih =>
    obtain ⟨hstart, hrest⟩ := ih (worseQuality q y)
    rw [worstCode_worseQuality] at hstart
    rw [List.foldl_cons, List.forall_mem_cons]
    exact ⟨by omega, by omega, hrest⟩

/-- The worst quality is that of a sample, or the one it started from. -/
theorem foldl_worseQuality_mem (xs : List Sample) (q : Option Quality) :
    xs.foldl worseQuality q = q ∨ ∃ x ∈ xs, xs.foldl worseQuality q = some x.quality := by
  induction xs generalizing q with
  | nil => exact .inl rfl
  | cons y ys ih =>
    rw [List.foldl_cons]
    rcases ih (worseQuality q y) with hsame | ⟨x, hx, heq⟩
    · rw [hsame]
      unfold worseQuality
      split
      · exact .inr ⟨y, List.mem_cons_self, rfl⟩
      · exact .inl rfl
    · exact .inr ⟨x, List.mem_cons_of_mem y hx, heq⟩

/-- A quality that outranks the worst one is no sample's. -/
theorem any_quality_false_of_outranks (xs : List Sample) (q : Quality)
    (h : worstCode (xs.foldl worseQuality none) < q.code) :
    xs.any (fun x => x.quality = q) = false := by
  rw [List.any_eq_false]
  intro x hx heq
  have hle := (code_le_foldl_worseQuality xs none).2 x hx
  rw [of_decide_eq_true heq] at hle
  omega

/-- The worst quality is some sample's. -/
theorem any_quality_of_worst (xs : List Sample) (q : Quality)
    (h : xs.foldl worseQuality none = some q) : xs.any (fun x => x.quality = q) = true := by
  rcases foldl_worseQuality_mem xs none with hnone | ⟨x, hx, heq⟩
  · rw [hnone] at h
    cases h
  · rw [heq] at h
    exact List.any_eq_true.mpr ⟨x, hx, decide_eq_true (Option.some.inj h)⟩

/-- R15's order: the worst quality is the first of FAULT, ABSENT, SETTLING, SATURATED, GOOD that a sample
of the run has. -/
theorem foldl_worseQuality_eq_table (xs : List Sample) :
    xs.foldl worseQuality none
      = (if xs.any (fun x => x.quality = .fault) then some .fault
         else if xs.any (fun x => x.quality = .absent) then some .absent
         else if xs.any (fun x => x.quality = .settling) then some .settling
         else if xs.any (fun x => x.quality = .saturated) then some .saturated
         else if xs.any (fun x => x.quality = .good) then some .good
         else none) := by
  have hout := any_quality_false_of_outranks xs
  have hmem := any_quality_of_worst xs
  cases hworst : xs.foldl worseQuality none with
  | none =>
    rw [hworst] at hout
    have hnone (q : Quality) : xs.any (fun x => x.quality = q) = false :=
      hout q (by cases q <;> decide)
    simp only [hnone, Bool.false_eq_true, if_false]
  | some q =>
    rw [hworst] at hout
    have hq := hmem q hworst
    cases q with
    | fault => rw [if_pos hq]
    | absent => rw [hout .fault (by decide), if_pos hq]; rfl
    | settling => rw [hout .fault (by decide), hout .absent (by decide), if_pos hq]; rfl
    | saturated =>
      rw [hout .fault (by decide), hout .absent (by decide), hout .settling (by decide), if_pos hq]; rfl
    | good =>
      rw [hout .fault (by decide), hout .absent (by decide), hout .settling (by decide),
        hout .saturated (by decide), if_pos hq]; rfl

end Sys2Proof.Machine

namespace Sys2Proof.Proofs

open Sys2Proof.Machine

/-- Settles O8, from R4's table and one lemma for each thing a sample does to the runs. -/
theorem sampleQualityRunsAndRange : Obligations.SampleQualityRunsAndRange := by
  rintro p g result x rfl
  have hpres (h : (p.sampleOf g result).quality ≠ .absent) : p.present = true :=
    p.present_of_quality_ne_absent result h
  refine ⟨p.quality_eq_table result, p.sampleOf_range g result, ?value, ?switchHigh, ?saturated,
    ?switchLow, ?low, ?other, p.arrive_faultRun g result⟩
  case value =>
    rw [Sampler.sampleOf_quality]
    cases hq : p.quality result with
    | absent => exact p.sampleOf_value_eq_zero g result (.inl hq)
    | fault => exact p.sampleOf_value_eq_zero g result (.inr hq)
    | good | saturated | settling =>
      rw [p.sampleOf_value_converted g result (by simp [hq]) (by simp [hq])]
      cases result <;> simp [resultCode]
  case switchHigh =>
    intro hq hg hrun
    simp [p.ranging_switches_high hq hg hrun]
  case saturated =>
    intro hq hg hrun
    simp [p.ranging_starts_saturatedRun (hpres (by rw [hq]; decide)) hq hg hrun]
  case switchLow =>
    intro hq hg hv hrun
    simp [p.ranging_switches_low hq hg hv hrun]
  case low =>
    intro hq hg hv hrun
    simp [p.ranging_raises_lowRun (hpres (by rw [hq]; decide)) hq hg hv hrun]
  case other =>
    intro hsat hlow
    simp [p.ranging_ends_runs hsat hlow]

/-- Settles O11: the usable samples are those of the statement's filter, their sum is `sumValues`, and the
fold over the qualities answers R15's order. -/
theorem windowRecordSummarisesNewestSamples : Obligations.WindowRecordSummarisesNewestSamples := by
  rintro p w xs good rfl rfl
  have husable : (p.ring.take w).filter (fun x => x.quality = .good ∨ x.quality = .saturated)
      = (p.ring.take w).filter Sample.usable :=
    List.filter_congr fun x _ => x.usable_eq_decide.symm
  rw [husable]
  refine ⟨rfl, rfl, ?mean, decide_eq_true_iff, ?worst⟩
  case mean =>
    simp only [← sumValues_eq_sum, ← List.length_eq_zero_iff]
    rfl
  case worst => rw [p.formWindow_worst, foldl_worseQuality_eq_table]

end Sys2Proof.Proofs
end

