-- ==== Sys2Proof/Proofs/RowLevelling.lean ====
section
/-! Row levelling: the raw level as a least covering level (R46, R47), the lift floor as a largest figure
(R48), the dead band (R50), the goals a levelling tick leaves (R41, R52), and the statements O18, O19 and
O22 from these. -/

namespace Sys2Proof.Machine

/-! ### The raw level (R46, R47) -/

/-- The quotient rounded up is the least multiplier of `d` that reaches `n`. -/
theorem ceilDiv_eq_of_least {n d k : Nat} (hd : 1 ≤ d) (hcovers : n ≤ k * d)
    (hleast : ∀ j < k, j * d < n) : (n + d - 1) / d = k := by
  refine Nat.div_eq_of_lt_le ?_ ?_
  · cases k with
    | zero => omega
    | succ j =>
      have hshort := hleast j (Nat.lt_succ_self j)
      rw [Nat.succ_mul]
      omega
  · rw [Nat.succ_mul]
    omega

theorem rawLevel_cut_off {target : Nat} {p : RankParams} {x : Nat} (hneed : need target p x = 0)
    (hcut : p.cutOff = true) : rawLevel target p x = 0 :=
  if_pos ⟨hneed, hcut⟩

/-- A rank that is not cut off gets the need over E, rounded up, capped and raised to the minimum. -/
theorem rawLevel_lit {target : Nat} {p : RankParams} {x : Nat}
    (hlit : 0 < need target p x ∨ p.cutOff = false) :
    rawLevel target p x
      = max p.minimum (min 1000 ((need target p x * 1000 + p.full - 1) / p.full)) := by
  have hnot : ¬ (need target p x = 0 ∧ p.cutOff = true) := by
    rintro ⟨hneed, hcut⟩
    rcases hlit with hpos | hclear
    · omega
    · rw [hclear] at hcut
      cases hcut
  exact if_neg hnot

/-! ### The lift floor (R48) -/

section Lift
variable {stepLimit : Nat} {r : Rank} {n : Published}

/-- The figure of a neighbour that publishes a reading and a goal is its goal less the step limit. -/
theorem liftFrom_goal {g : Nat} (hstate : n.readingState ≠ .unavailable) (hgoal : n.goal.get r = some g) :
    liftFrom stepLimit r n = g - stepLimit := by
  simp [liftFrom, hstate, hgoal]

/-- A figure above 0 comes from a neighbour that publishes a reading and a goal. -/
theorem liftFrom_pos (hpos : 0 < liftFrom stepLimit r n) :
    n.readingState ≠ .unavailable
      ∧ ∃ g, n.goal.get r = some g ∧ g = liftFrom stepLimit r n + stepLimit := by
  by_cases hstate : n.readingState = .unavailable
  · simp [liftFrom, hstate] at hpos
  · cases hgoal : n.goal.get r with
    | none => simp [liftFrom, hgoal] at hpos
    | some g =>
      rw [liftFrom_goal hstate hgoal] at hpos ⊢
      exact ⟨hstate, g, rfl, by omega⟩

end Lift

/-- One neighbour more raises the lift floor to its figure, if that is larger. -/
theorem liftFloorOf_cons (stepLimit : Nat) (r : Rank) (n : Published) (ns : List Published) :
    liftFloorOf stepLimit r (n :: ns) = max (liftFrom stepLimit r n) (liftFloorOf stepLimit r ns) := by
  have hfoldr (ms : List Published) :
      liftFloorOf stepLimit r ms = (ms.map (liftFrom stepLimit r)).foldr max 0 := by
    rw [List.foldr_eq_foldl, List.foldl_map]
    rfl
  rw [hfoldr, hfoldr, List.map_cons, List.foldr_cons]

theorem liftFrom_le_liftFloorOf (stepLimit : Nat) (r : Rank) {n : Published} {ns : List Published}
    (hn : n ∈ ns) : liftFrom stepLimit r n ≤ liftFloorOf stepLimit r ns := by
  induction ns with
  | nil => cases hn
  | cons m ms ih =>
    rw [liftFloorOf_cons]
    rcases List.mem_cons.mp hn with rfl | htail
    · exact Nat.le_max_left _ _
    · exact Nat.le_trans (ih htail) (Nat.le_max_right _ _)

/-- No goal lent exceeds the lift floor by more than the step limit. -/
theorem goal_le_liftFloorOf_add {stepLimit : Nat} {r : Rank} {n : Published} {ns : List Published}
    {g : Nat} (hn : n ∈ ns) (hstate : n.readingState ≠ .unavailable) (hgoal : n.goal.get r = some g) :
    g ≤ liftFloorOf stepLimit r ns + stepLimit := by
  have hle := liftFrom_le_liftFloorOf stepLimit r hn
  rw [liftFrom_goal hstate hgoal] at hle
  omega

/-- The lift floor is 0 or one neighbour's figure. -/
theorem liftFloorOf_attained (stepLimit : Nat) (r : Rank) (ns : List Published) :
    liftFloorOf stepLimit r ns = 0 ∨ ∃ n ∈ ns, liftFrom stepLimit r n = liftFloorOf stepLimit r ns := by
  induction ns with
  | nil => exact .inl rfl
  | cons n ns ih =>
    rw [liftFloorOf_cons]
    rcases Nat.le_total (liftFrom stepLimit r n) (liftFloorOf stepLimit r ns) with hle | hle
    · rw [Nat.max_eq_right hle]
      exact ih.imp_right fun ⟨m, hm, heq⟩ => ⟨m, List.mem_cons_of_mem n hm, heq⟩
    · rw [Nat.max_eq_left hle]
      exact .inr ⟨n, List.mem_cons_self, rfl⟩

/-! ### The dead band (R50) -/

/-- A goal below the lift floor moves to the candidate, so no goal is left below it. -/
theorem liftFloor_le_bandedGoal {deadBand minimum liftFloor cand : Nat} (goal : Option Nat)
    (hcand : liftFloor ≤ cand) : liftFloor ≤ bandedGoal deadBand minimum liftFloor cand goal := by
  cases goal with
  | none => exact hcand
  | some g =>
    simp only [bandedGoal]
    split
    · exact hcand
    · omega

/-- The goal of a tick is one no smaller than the tick's lift floor (R49, R50). -/
theorem State.tickGoal_ge_liftFloor (s : State) (ns : List Published) (x : Nat) (r : Rank) :
    ∃ goal, (s.tickGoal ns x r).1 = some goal ∧ liftFloorOf s.img.stepLimit r ns ≤ goal :=
  ⟨_, rfl, liftFloor_le_bandedGoal _ (Nat.le_max_right _ _)⟩

/-! ### A tick's result owed begins no restart (R172, R175, R182) -/

theorem State.resultGone_levelling {s : State} (h : s.service.restartWaits = false) :
    s.resultGone.levelling = s.levelling := by
  unfold State.resultGone
  split <;> simp [h]

theorem State.offerResult_levelling {s : State} (h : s.service.restartWaits = false) (p : Pending)
    (a : Answer) : (s.offerResult p a).levelling = s.levelling := by
  unfold State.offerResult
  simp only
  split
  · simp
  · exact State.resultGone_levelling h

theorem State.offerStepResult_levelling {s : State} (h : s.service.restartWaits = false) :
    s.offerStepResult.levelling = s.levelling := by
  unfold State.offerStepResult
  split
  · exact State.offerResult_levelling h _ _
  · rfl

theorem State.payOwed_levelling {s : State}
    (h : s.service.owed = true → s.service.restartWaits = false) :
    s.payOwed.levelling = s.levelling := by
  unfold State.payOwed
  split
  · next howed => exact State.offerStepResult_levelling (h howed)
  · rfl

/-- The result owed is a STEP's, and a STEP is no RESTART. -/
theorem State.restartWaits_of_owed {s : State} (h : s.PhaseInv) (howed : s.service.owed = true) :
    s.service.restartWaits = false := by
  obtain ⟨-, hstep, -, hrestart⟩ := h
  obtain ⟨-, hkind⟩ := hstep (.inl howed)
  cases hwaits : s.service.restartWaits with
  | false => rfl
  | true =>
    rw [hrestart hwaits] at hkind
    exact absurd hkind (by decide)

@[simp] theorem State.stepTickDone_owed (s : State) :
    s.stepTickDone.service.owed = s.service.owed := by
  unfold State.stepTickDone
  split <;> simp

@[simp] theorem State.stepTickDone_restartWaits (s : State) :
    s.stepTickDone.service.restartWaits = s.service.restartWaits := by
  unfold State.stepTickDone
  split <;> simp [Service.restartWaits]

/-! ### The goals a levelling tick leaves (R41) -/

/-- The near neighbours are read from the row table, the own position and the reach. -/
theorem State.neighbours_congr {s t : State} (hstart : t.startUp = s.startUp) (hrows : t.rows = s.rows) :
    t.neighbours = s.neighbours := by
  simp only [State.neighbours, State.own, State.img, hstart, hrows]

theorem State.img_congr {s t : State} (hstart : t.startUp = s.startUp) : t.img = s.img := by
  simp only [State.img, hstart]

theorem State.present_congr {s t : State} (hstart : t.startUp = s.startUp) : t.present = s.present := by
  funext r
  simp only [State.present, hstart]

/-- The reading a tick at `s` chooses, and where it comes from (R41, R43). -/
def State.tickReading (s : State) : Nat × ReadingState :=
  chooseReading (s.sampler.formWindow s.img.window) s.neighbours

@[simp] theorem State.publishGoals_goal (s : State) :
    s.publishGoals.levelling.goal = s.levelling.goal := rfl

theorem State.levelFrom_goal (s : State) (ns : List Published) (x : Nat) (st : ReadingState) {r : Rank}
    (hr : s.present r = true) :
    (s.levelFrom ns x st).levelling.goal.get r = (s.tickGoal ns x r).1 := by
  simp [State.levelFrom, hr]

/-- The first part of a tick's work: the window record, the goals and the base claims (R41). -/
def State.tickLevels (s : State) : State :=
  let u := s.setSampler { s.sampler with window := s.sampler.formWindow s.img.window }
  if s.tickReading.2 = .unavailable then u.levelBlind
  else u.levelFrom s.neighbours s.tickReading.1 s.tickReading.2

/-- The second part, after a reading from `st`: the condition, the published goals, the FRONT and VACANCY
claims (R41). -/
def State.tickPublishes (s : State) (st : ReadingState) : State :=
  let u := (s.latchReading st).publishGoals.frontTick
  if u.occ.state = .vacant then u.assertVacancy else u

/-- A tick is these two parts, then the end of a step, the result owed and the comparison for a DELTA. -/
theorem State.levellingTick_eq (s : State) :
    s.levellingTick
      = (s.tickLevels.tickPublishes s.tickReading.2).stepTickDone.payOwed.deltaCheck := rfl

/-- The first part of a tick that finds a reading gives each present rank the goal of R50. -/
theorem State.tickLevels_goal {s : State} {r : Rank} (hread : s.tickReading.2 ≠ .unavailable)
    (hr : s.present r = true) :
    s.tickLevels.levelling.goal.get r = (s.tickGoal s.neighbours s.tickReading.1 r).1 := by
  simp only [State.tickLevels, if_neg hread]
  exact State.levelFrom_goal _ _ _ _ hr

@[simp] theorem State.tickLevels_service (s : State) : s.tickLevels.service = s.service := by
  simp only [State.tickLevels]
  split <;> simp

@[simp] theorem State.tickPublishes_goal (s : State) (st : ReadingState) :
    (s.tickPublishes st).levelling.goal = s.levelling.goal := by
  simp only [State.tickPublishes]
  split <;> simp

@[simp] theorem State.tickPublishes_service (s : State) (st : ReadingState) :
    (s.tickPublishes st).service = s.service := by
  simp only [State.tickPublishes]
  split <;> simp

/-- A tick that finds a reading leaves each present rank the goal of R50. -/
theorem State.levellingTick_goal {s : State} {r : Rank} (hread : s.tickReading.2 ≠ .unavailable)
    (howed : s.service.owed = true → s.service.restartWaits = false) (hr : s.present r = true) :
    s.levellingTick.levelling.goal.get r = (s.tickGoal s.neighbours s.tickReading.1 r).1 := by
  have hpay : (s.tickLevels.tickPublishes s.tickReading.2).stepTickDone.payOwed.levelling
      = (s.tickLevels.tickPublishes s.tickReading.2).stepTickDone.levelling :=
    State.payOwed_levelling (by simpa using howed)
  simp [State.levellingTick_eq, hpay, State.tickLevels_goal hread hr]

/-- The moment of a tick: the clock at the expiry and the tick timer started anew (R40). -/
def State.atTick (s : State) (expiry : Nat) : State :=
  (s.advanceTo expiry).setLevelling { s.levelling with tick := some expiry }

section AtTick
variable (s : State) (expiry : Nat)

theorem State.atTick_startUp : (s.atTick expiry).startUp = s.startUp := by simp [State.atTick]

theorem State.atTick_rows : (s.atTick expiry).rows = s.rows := by simp [State.atTick]

@[simp] theorem State.atTick_sampler : (s.atTick expiry).sampler = s.sampler := by simp [State.atTick]

@[simp] theorem State.atTick_service : (s.atTick expiry).service = s.service := by simp [State.atTick]

@[simp] theorem State.atTick_img : (s.atTick expiry).img = s.img :=
  State.img_congr (s.atTick_startUp expiry)

@[simp] theorem State.atTick_present : (s.atTick expiry).present = s.present :=
  State.present_congr (s.atTick_startUp expiry)

@[simp] theorem State.atTick_neighbours : (s.atTick expiry).neighbours = s.neighbours :=
  State.neighbours_congr (s.atTick_startUp expiry) (s.atTick_rows expiry)

@[simp] theorem State.atTick_tickReading : (s.atTick expiry).tickReading = s.tickReading := by
  simp [State.tickReading]

end AtTick

/-- The expiry of the tick timer, when it is not skipped, is a full tick at the moment of the expiry. -/
theorem exec_levellingTick {s : State} {start : Nat} (hrun : s.running = true)
    (htick : s.levelling.tick = some start) (hskip : s.service.skipsTick = false) :
    exec .levellingTick s = .next (s.atTick (start + ms 200)).levellingTick := by
  have hexec : exec .levellingTick s = execLevellingTick s := rfl
  simp [hexec, execLevellingTick, State.atTick, hrun, htick, hskip]

end Sys2Proof.Machine

namespace Sys2Proof.Proofs

open Sys2Proof.Machine

/-- Settles O18: the quotient rounded up is the least covering level, and the lift floor is a bound of the
figures that one of them attains. -/
theorem rawLevelAndLiftFloor : Obligations.RawLevelAndLiftFloor := by
  intro target p x level stepLimit r ns
  refine ⟨fun hfull => ⟨rfl, rawLevel_cut_off, ?least⟩, ?bound, ?attained⟩
  case least =>
    intro hlit hcovers hleast
    rw [rawLevel_lit hlit, ceilDiv_eq_of_least hfull hcovers hleast]
  case bound =>
    intro n hn hstate g hgoal
    exact goal_le_liftFloorOf_add hn hstate hgoal
  case attained =>
    rcases Nat.eq_zero_or_pos (liftFloorOf stepLimit r ns) with hzero | hpos
    · exact .inl hzero
    · obtain ⟨n, hn, heq⟩ := (liftFloorOf_attained stepLimit r ns).resolve_left (Nat.ne_of_gt hpos)
      rw [← heq] at hpos ⊢
      obtain ⟨hstate, g, hgoal, hg⟩ := liftFrom_pos hpos
      exact .inr ⟨n, hn, hstate, g, hgoal, hg⟩

/-- Settles O19: an undefined goal takes the candidate, and the conditions for a defined one are R50's. -/
theorem goalMovesOnlyPastDeadBand : Obligations.GoalMovesOnlyPastDeadBand := by
  intro deadBand minimum liftFloor cand goal
  refine ⟨?_, rfl, rfl, rfl, rfl, rfl, rfl⟩
  cases goal with
  | none => rfl
  | some g => simp only [bandedGoal, and_comm]

/-- Settles O22: the tick's goal is at least its lift floor, and the floor is within the step limit of every
goal lent. -/
theorem goalsKeepWithinStepOfNeighbours : Obligations.GoalsKeepWithinStepOfNeighbours := by
  intro s t start n r g hrun htick hskip hphase hread hexec hr hn hstate hgoal
  rw [exec_levellingTick hrun htick hskip, Host.Outcome.next.injEq] at hexec
  subst hexec
  obtain ⟨goal, hset, hfloor⟩ :=
    (s.atTick (start + ms 200)).tickGoal_ge_liftFloor s.neighbours s.tickReading.1 r
  rw [State.atTick_img] at hfloor
  have hlift : g ≤ liftFloorOf s.img.stepLimit r s.neighbours + s.img.stepLimit :=
    goal_le_liftFloorOf_add hn hstate hgoal
  refine ⟨goal, ?_, by omega⟩
  rw [State.levellingTick_goal (by rwa [State.atTick_tickReading])
    (by simpa using State.restartWaits_of_owed hphase) (by simpa using hr),
    State.atTick_neighbours, State.atTick_tickReading, hset]

end Sys2Proof.Proofs
end

