-- ==== Sys2Proof/Proofs/Ramps.lean ====
section
/-! One generator: the motion toward a target (R93), one ramp step (R94), one fault-sense sample (R99,
R100), and the statement O29 from these. -/

namespace Sys2Proof.Machine

/-! ### The motion toward a target (R93) -/

theorem motion_eq_rising_iff {output target : Nat} : motion output target = .rising ↔ output < target := by
  unfold motion
  split
  · simp; omega
  · split <;> simp [*]

theorem motion_eq_falling_iff {output target : Nat} :
    motion output target = .falling ↔ target < output := by
  unfold motion
  split
  · simp; omega
  · split <;> simp <;> omega

theorem motion_eq_still_iff {output target : Nat} : motion output target = .still ↔ output = target := by
  unfold motion
  split
  · simp [*]
  · split <;> simp [*]

/-! ### One ramp step (R94) -/

section Move
variable {g : Ramp} {u : Rule}

theorem Ramp.move_rising (hstate : g.state = .rising) (hrule : g.rule = some u) :
    g.move = if g.target - g.output ≤ (g.acc + u.up) / 50 then
        { g with output := g.target, acc := 0, state := .still }
      else { g with output := g.output + (g.acc + u.up) / 50, acc := (g.acc + u.up) % 50 } := by
  simp only [Ramp.move, hstate, hrule, wholeStep]

theorem Ramp.move_falling (hstate : g.state = .falling) (hrule : g.rule = some u) :
    g.move = if g.output - g.target ≤ (g.acc + u.down) / 50 then
        { g with output := g.target, acc := 0, state := .still }
      else { g with output := g.output - (g.acc + u.down) / 50, acc := (g.acc + u.down) % 50 } := by
  simp only [Ramp.move, hstate, hrule, wholeStep]

theorem Ramp.move_of_rest (hstate : g.state = .still ∨ g.state = .frozen) : g.move = g := by
  rcases hstate with h | h <;> simp only [Ramp.move, h]

theorem Ramp.move_of_rule_none (hrule : g.rule = none) : g.move = g := by
  cases hstate : g.state <;> simp only [Ramp.move, hstate, hrule]

/-- A RISING output climbs by the whole step and is stopped by its target. -/
theorem Ramp.move_output_rising (hstate : g.state = .rising) (hrule : g.rule = some u) :
    g.move.output = min g.target (g.output + (g.acc + u.up) / 50) := by
  rw [Ramp.move_rising hstate hrule]
  split <;> dsimp only <;> omega

/-- A FALLING output sinks by the whole step and is stopped by its target. -/
theorem Ramp.move_output_falling (hstate : g.state = .falling) (hrule : g.rule = some u) :
    g.move.output = max g.target (g.output - (g.acc + u.down) / 50) := by
  rw [Ramp.move_falling hstate hrule]
  split <;> dsimp only <;> omega

/-- A ramp step goes no farther than 20 per mille and not past the target. -/
theorem Ramp.move_output_bounds (hmotion : g.state = motion g.output g.target) (hrange : g.InRange) :
    g.move.output ≤ g.output + 20 ∧ g.output ≤ g.move.output + 20 ∧ g.move.output ≤ 1000
      ∧ (g.output ≤ g.target → g.move.output ≤ g.target)
      ∧ (g.target ≤ g.output → g.target ≤ g.move.output) := by
  obtain ⟨hout, htarget, hrates, hacc, -, -⟩ := hrange
  cases hrule : g.rule with
  | none => rw [Ramp.move_of_rule_none hrule]; omega
  | some u =>
    obtain ⟨-, hup, -, hdown⟩ := hrates u hrule
    cases hstate : g.state with
    | still => rw [Ramp.move_of_rest (.inl hstate)]; omega
    | frozen => rw [Ramp.move_of_rest (.inr hstate)]; omega
    | rising =>
      have hbelow : g.output < g.target := motion_eq_rising_iff.mp (hmotion.symm.trans hstate)
      rw [Ramp.move_output_rising hstate hrule]
      omega
    | falling =>
      have habove : g.target < g.output := motion_eq_falling_iff.mp (hmotion.symm.trans hstate)
      rw [Ramp.move_output_falling hstate hrule]
      omega

end Move

/-! ### One fault-sense sample (R99, R100) -/

theorem runUp_eq_three_iff {n : Nat} : runUp n = 3 ↔ 2 ≤ n := by
  unfold runUp; omega

section Sense
variable (g : Ramp)

/-- Lit, an asserted sample raises the asserted run, and the third in a row makes the rank faulted. -/
theorem Ramp.sense_asserted_lit (hlit : 0 < g.output) :
    g.sense true = { g with
      assertedRun := min 3 (g.assertedRun + 1), clearRun := 0
      faulted := if 2 ≤ g.assertedRun then true else g.faulted } := by
  simp only [Ramp.sense, if_pos hlit, runUp_eq_three_iff, if_true]
  rfl

/-- Dark, an asserted sample does not count. -/
theorem Ramp.sense_asserted_dark (hdark : g.output = 0) : g.sense true = g := by
  simp [Ramp.sense, hdark]

/-- A deasserted sample counts at every output, and the third in a row clears the rank. -/
theorem Ramp.sense_deasserted :
    g.sense false = { g with
      clearRun := min 3 (g.clearRun + 1), assertedRun := 0
      faulted := if 2 ≤ g.clearRun then false else g.faulted } := by
  simp only [Ramp.sense, runUp_eq_three_iff, Bool.false_eq_true, if_false]
  rfl

end Sense

end Sys2Proof.Machine

namespace Sys2Proof.Proofs

open Sys2Proof.Machine

/-- Settles O29, from the equations of a ramp step and of a fault-sense sample and the bounds that they
put on the output. -/
theorem rampStepMovesAndJudgesFaultLine : Obligations.RampStepMovesAndJudgesFaultLine := by
  intro g u
  exact ⟨Ramp.move_rising, Ramp.move_falling, Ramp.move_of_rest, Ramp.move_output_bounds,
    g.sense_asserted_lit, g.sense_asserted_dark, g.sense_deasserted,
    motion_eq_rising_iff, motion_eq_falling_iff, motion_eq_still_iff⟩

end Sys2Proof.Proofs
end
